-- ==== Sys2Proof/Word.lean ====
section
/-! DEFINITION. The words the MWOT core carries: bits, 3-bit instruction codes and bytes.
Positions are `Nat`, tape indices and cells are `Int` (00_scope.md R11, R14; 10_state.md R22, R25). -/

namespace Sys2Proof

/-- A bit, a value in 0 and 1 (00_scope.md R11). -/
abbrev Bit := Bool

/-- A 3-bit instruction code, `op[2]` its most significant bit (30_encoding.md R91). -/
abbrev Code := BitVec 3

/-- A byte, `0 .. 255` (10_state.md R38). -/
abbrev Byte := BitVec 8

/-- The jump table as data: (position, matching position) pairs, positions strictly rising (10_state.md R27). -/
abbrev JumpTable := List (Nat × Nat)

end Sys2Proof
end

