-- ==== Sys2Proof/Syntax.lean ====
section
/-! DEFINITION. The eight instructions of MWOT-8, one constructor per row of the opcode map
(30_encoding.md R92). No instruction has an operand or an immediate (R94). -/

namespace Sys2Proof

/-- The instructions, named as the third column of the opcode map names them (R92, decision D2). -/
inductive Instr where
  /-- `>`: pointer plus one (43_pointer.md R181). -/
  | right
  /-- `<`: pointer minus one (43_pointer.md R182). -/
  | left
  /-- `+`: current cell plus one (44_cell_arith.md R190). -/
  | inc
  /-- `-`: current cell minus one (44_cell_arith.md R191). -/
  | dec
  /-- `.`: the current cell modulo 256 to the output sink (45_io.md R201). -/
  | out
  /-- `,`: one item of the input source into the current cell (45_io.md R204). -/
  | in_
  /-- `[`: if the current cell is zero, to the matching `]` (46_loop_control.md R216). -/
  | open_
  /-- `]`: if the current cell is not zero, to the matching `[` (46_loop_control.md R217). -/
  | close
  deriving DecidableEq, Repr

end Sys2Proof
end

