-- ==== Sys2Proof/Decode.lean ====
section
/-! DEFINITION. The decoder and the encoder of the opcode map (30_encoding.md R92, R100), the word
form the opcode table uses, and the assembler of the symbol notation (R98). -/

namespace Sys2Proof

/-- Why a word or a text is no instruction. Every reason is a refusal of the decoder or the assembler,
never of a 3-bit code: all eight codes are assigned (30_encoding.md R93). -/
inductive DecodeError where
  /-- The word has fewer than the three bits of the one format (R91). -/
  | tooShort
  /-- A bit above bit 2 is set: the word is no 3-bit code (R91). -/
  | widerThanCode
  /-- A character other than the eight symbols (R98, decision D20). -/
  | notASymbol
  deriving DecidableEq, Repr

/-- The decoder: total on 3-bit codes (30_encoding.md R92, R93; `op[2]` is bit 2). -/
def decode (c : Code) : Instr :=
  match c with
  | 0b000#3 => .right
  | 0b001#3 => .left
  | 0b010#3 => .inc
  | 0b011#3 => .dec
  | 0b100#3 => .out
  | 0b101#3 => .in_
  | 0b110#3 => .open_
  | 0b111#3 => .close

/-- The decoder on a word of `nbits` bits that holds a code in its low three bits and zeros above. -/
def decodeWord (nbits w : Nat) : Except DecodeError Instr :=
  if nbits < 3 then .error .tooShort
  else if w < 8 then .ok (decode (BitVec.ofNat 3 w))
  else .error .widerThanCode

/-- The instruction of a word numbered as the opcode table numbers it (bit 0 least significant). -/
def decodeTableWord (nbits w : Nat) : Option Instr :=
  match decodeWord nbits w with
  | .ok i => some i
  | .error _ => none

/-- The code of an instruction (30_encoding.md R92, R100). -/
def encode : Instr → Code
  | .right => 0b000#3
  | .left  => 0b001#3
  | .inc   => 0b010#3
  | .dec   => 0b011#3
  | .out   => 0b100#3
  | .in_   => 0b101#3
  | .open_ => 0b110#3
  | .close => 0b111#3

/-- A program as the codes the program port and `IMEM` carry (30_encoding.md R90). -/
def encodeProgram (p : List Instr) : List Code := p.map encode

/-- The symbol of an instruction (30_encoding.md R92). -/
def Instr.symbol : Instr → Char
  | .right => '>'
  | .left  => '<'
  | .inc   => '+'
  | .dec   => '-'
  | .out   => '.'
  | .in_   => ','
  | .open_ => '['
  | .close => ']'

/-- The instruction a symbol stands for; any other character is refused (30_encoding.md R98, D20). -/
def Instr.ofSymbol (c : Char) : Option Instr :=
  if c = '>' then some .right
  else if c = '<' then some .left
  else if c = '+' then some .inc
  else if c = '-' then some .dec
  else if c = '.' then some .out
  else if c = ',' then some .in_
  else if c = '[' then some .open_
  else if c = ']' then some .close
  else none

/-- The assembler: a text of the eight symbols, position 0 first, and nothing else (30_encoding.md R98). -/
def assemble : List Char → Except DecodeError (List Instr)
  | [] => .ok []
  | c :: cs =>
    match Instr.ofSymbol c, assemble cs with
    | some i, .ok p => .ok (i :: p)
    | some _, .error e => .error e
    | none, _ => .error .notASymbol

/-- PRESUMED: the ASCII code of a symbol (30_encoding.md R99, general knowledge K1; log 23). Nothing in
the hardware depends on it. -/
def Instr.ascii : Instr → Byte
  | .right => 0x3E#8
  | .left  => 0x3C#8
  | .inc   => 0x2B#8
  | .dec   => 0x2D#8
  | .out   => 0x2E#8
  | .in_   => 0x2C#8
  | .open_ => 0x5B#8
  | .close => 0x5D#8

end Sys2Proof
end

