-- ==== Sys2Proof/Config.lean ====
section
/-! DEFINITION. What is fixed for a run (the configuration registers' type and defaults), what an
implementation fixes (`Supported`), and the free values: constants with no body that stand for the
values the spec leaves unspecified. -/

namespace Sys2Proof

/-- The end-of-input policy, `CFG.EOFMODE` (00_scope.md R6, 10_state.md R29). -/
inductive EofMode where
  /-- Code 0: a `,` at end of input leaves the cell unchanged. -/
  | noChange
  /-- Code 1: a `,` at end of input stores the fill value. -/
  | fill
  deriving DecidableEq, Repr

/-- The five configuration registers (10_state.md R29). -/
structure Cfg where
  /-- `CFG.W`, the cell bit-width; 0 means unbounded cells. -/
  w : Nat
  /-- `CFG.N`, the total cell count; 0 means the dynamic tape. -/
  n : Nat
  /-- `CFG.WRAP`, wraparound enabled. -/
  wrap : Bool
  /-- `CFG.EOFMODE`, the end-of-input policy. -/
  eofmode : EofMode
  /-- `CFG.FILL`, the fill value, any integer (45_io.md R207). -/
  fill : Int
  deriving DecidableEq, Repr

/-- The defaults, which reset loads (00_scope.md R7, 10_state.md R43). -/
def Cfg.default : Cfg := { w := 8, n := 30000, wrap := true, eofmode := .noChange, fill := 0 }

namespace Config

/-- The predicate `Supported(W, N, WRAP, EOFMODE, FILL, L)`, a parameter the model takes as an
argument (00_scope.md R8): which configurations and program lengths an implementation provides. -/
abbrev Support := Cfg → Nat → Bool

/-- The reference value of `Supported`: always true (00_scope.md R8). -/
def supported : Support := fun _ _ => true

/-- FREE VALUE: the cell at a tape index while the tape is unspecified (after reset and after a
fault; 10_state.md R43, R45). The first argument tells the occasions apart. -/
opaque freeCell : Nat → Int → Int

/-- FREE VALUE: `JT` at a position for which it has no entry (10_state.md R27, R43, R45). -/
opaque freeJump : Nat → Nat → Nat

/-- FREE VALUE: `PC` after a fault (10_state.md R45). -/
opaque freePc : Nat → Nat

/-- FREE VALUE: `PTR` after a fault (10_state.md R45). -/
opaque freePtr : Nat → Int

/-- FREE VALUE: `OUTCNT` after a fault (10_state.md R45). -/
opaque freeOutcnt : Nat → Nat

/-- FREE VALUE: `INEOF` after a fault (10_state.md R45). -/
opaque freeIneof : Nat → Bool

/-- FREE VALUE: `SCAN` after a fault (10_state.md R45). -/
opaque freeScan : Nat → Nat

/-- FREE VALUE: `BSTACK` after a fault (10_state.md R45). -/
opaque freeBstack : Nat → List Nat

end Config

end Sys2Proof
end

