-- ==== Sys2Proof/Machine/State.lean ====
section
/-! DEFINITION. The state of the three units, the configuration and status registers and the
interfaces (10_state.md), as plain data, and the state after reset. -/

namespace Sys2Proof
namespace Machine

/-- `STATUS` (10_state.md R31). Code 7 is never taken and has no constructor. -/
inductive Status where
  /-- Code 0: after reset; no run started. -/
  | idle
  /-- Code 1: consuming the instruction stream into `IMEM`. -/
  | load
  /-- Code 2: `JTB` is scanning the program. -/
  | prep
  /-- Code 3: `EXEC` is executing instructions. -/
  | run
  /-- Code 4: the run ended normally. -/
  | halted
  /-- Code 5: the run failed with one of the four faults. -/
  | faulted
  /-- Code 6: the start was refused (00_scope.md R8); nothing ran. -/
  | refused
  deriving DecidableEq, Repr

/-- `FCAUSE` (10_state.md R32). -/
inductive Cause where
  /-- Code 0: no fault. -/
  | none
  /-- Code 1: the load stream was aborted (42_execution_cycle.md R163). -/
  | incompleteGroup
  /-- Code 2: raised by `JTB` (41_jump_table.md R145). -/
  | unmatchedOpenBracket
  /-- Code 3: raised by `JTB` (41_jump_table.md R144). -/
  | unmatchedCloseBracket
  /-- Code 4: raised by `>` and `<` (43_pointer.md R183). -/
  | pointerOutOfRange
  /-- Code 5: the configuration or program length is not supported (60_exceptions.md R238). -/
  | unsupported
  deriving DecidableEq, Repr

/-- `POP`, the packer operation (10_state.md R35). -/
inductive PackOp where
  /-- Code 0: bits to instruction codes. -/
  | b2i
  /-- Code 1: instruction codes to bits. -/
  | i2b
  /-- Code 2: bits to bytes. -/
  | b2y
  /-- Code 3: bytes to bits. -/
  | y2b
  deriving DecidableEq, Repr

/-- `PSTAT.PHASE` (10_state.md R36). -/
inductive Phase where
  /-- Code 0, `PIDLE`: no call yet. -/
  | idle
  /-- Code 1, `PBUSY`: call in progress. -/
  | busy
  /-- Code 2, `PDONE`: call ended with `end`. -/
  | done
  /-- Code 3, `PFAULT`: call ended with `IncompleteGroup`. -/
  | failed
  deriving DecidableEq, Repr

/-- What a cell that is not listed holds. -/
inductive Background where
  /-- The tape was zeroed by the start of a run (42_execution_cycle.md R161; 10_state.md R24). -/
  | zero
  /-- The tape is unspecified (after reset or a fault); the number tells the occasions apart. -/
  | unspecified (occasion : Nat)
  deriving DecidableEq, Repr

/-- `TAPE` (10_state.md R23, R24): the cells that differ from the background, indices strictly rising. -/
structure Memory where
  /-- What every cell that is not listed holds. -/
  fresh : Background
  /-- (index, value) pairs. -/
  cells : List (Int × Int)
  deriving DecidableEq, Repr

/-- An answer of the input source to `InByte()` (00_scope.md R13). -/
inductive InItem where
  /-- A byte. -/
  | byte (b : Byte)
  /-- End of input. -/
  | eof
  deriving DecidableEq, Repr

/-- How a stream is closed (10_state.md R40). -/
inductive Close where
  /-- The indication `end`. -/
  | fin
  /-- `abort`: the call that fed the stream failed. -/
  | abort
  deriving DecidableEq, Repr

/-- An item of the program port (42_execution_cycle.md R162). -/
inductive ProgItem where
  /-- An instruction code. -/
  | code (c : Code)
  /-- The stream's close. -/
  | closed (how : Close)
  deriving DecidableEq, Repr

/-- An item of the packer's input port; which of them can arrive depends on `POP` (10_state.md R35, R40). -/
inductive PackItem where
  /-- A bit. -/
  | bit (b : Bit)
  /-- An instruction code. -/
  | code (c : Code)
  /-- A byte. -/
  | byte (v : Byte)
  /-- The indication `end`. -/
  | fin
  deriving DecidableEq, Repr

/-- An item of the packer's output port (10_state.md R35, R40). -/
inductive PackOut where
  /-- A bit. -/
  | bit (b : Bit)
  /-- An instruction code. -/
  | code (c : Code)
  /-- A byte. -/
  | byte (v : Byte)
  deriving DecidableEq, Repr

/-- What the host may do to the core: the rows of 60_exceptions.md R251 that touch its state. -/
inductive HostMove where
  /-- Configure: write `CFG.W`. -/
  | writeW (v : Nat)
  /-- Configure: write `CFG.N`. -/
  | writeN (v : Nat)
  /-- Configure: write `CFG.WRAP`. -/
  | writeWrap (v : Bool)
  /-- Configure: write `CFG.EOFMODE`. -/
  | writeEofMode (v : EofMode)
  /-- Configure: write `CFG.FILL`. -/
  | writeFill (v : Int)
  /-- Start: the start command of a run. -/
  | start
  /-- Start: offer an item on the program port. -/
  | program (x : ProgItem)
  /-- Input: answer one `InByte()`. -/
  | input (x : InItem)
  /-- Output: accept one byte. -/
  | accept
  /-- Packer call: write `POP`. -/
  | writePop (op : PackOp)
  /-- Packer call: the start command of a call. -/
  | packStart
  /-- Packer call: offer an item on the packer's input port. -/
  | packItem (x : PackItem)
  /-- Connect the packer's output stream to the program port, or the host's (42_execution_cycle.md R162; log 12). -/
  | wire (v : Bool)
  /-- Reset. -/
  | reset
  deriving DecidableEq, Repr

/-- Which agent moves in a step (00_scope.md R10; log 1). -/
inductive Turn where
  /-- The run: the loader, `JTB` or `EXEC`, whichever phase `STATUS` names. -/
  | run
  /-- The packer `PACK`. -/
  | pack
  /-- The host, with its move. -/
  | host (m : HostMove)
  deriving DecidableEq, Repr

/-- The machine's own stops, apart from the spec's faults (which are next states: 60_exceptions.md R236). -/
inductive Fault where
  /-- Raised by an instruction that accesses the tape while `PTR` is an index the tape does not have
  (20_memory.md R68). SAFE: no run reaches such a state (R69, R185). -/
  | noSuchCell
  deriving DecidableEq, Repr

/-- What the model refuses. -/
inductive Refusal where
  /-- Raised by an arm of `exec` that has no meaning yet. SAFE. -/
  | notModelled (mnemonic : String)
  /-- Raised by `PACK` when the item before it is not of the type `POP` gives the port. SAFE: the port's
  typing makes it impossible (40_packer.md R110). -/
  | packItemOfOtherType
  deriving DecidableEq, Repr

/-- Everything the spec gives the machine (10_state.md), and the model's own `turns` and `tick`. -/
structure State where
  /-- `PC` (R21). -/
  pc : Nat
  /-- `PTR` (R22). -/
  ptr : Int
  /-- `TAPE` (R23, R24). -/
  tape : Memory
  /-- `OUTCNT` (R34). -/
  outcnt : Nat
  /-- `INEOF` (R38). -/
  ineof : Bool
  /-- `IMEM` at positions `0 .. L-1` (R26); `L` is its length. -/
  imem : List Code
  /-- `JT` (R27). -/
  jt : JumpTable
  /-- `SCAN` (R28). -/
  scan : Nat
  /-- `BSTACK`, bottom first, top at the end (R28). -/
  bstack : List Nat
  /-- `CFG.*` (R29). -/
  cfg : Cfg
  /-- `STATUS` (R31). -/
  status : Status
  /-- `FCAUSE` (R32). -/
  fcause : Cause
  /-- `FPOS` (R33). -/
  fpos : Nat
  /-- `POP` (R35). -/
  pop : PackOp
  /-- `ACC` (R35). -/
  acc : Nat
  /-- `CNT` (R35). -/
  cnt : Nat
  /-- `PSTAT.PHASE` (R36). -/
  phase : Phase
  /-- `PSTAT.PAD` (R36). -/
  pad : Bool
  /-- `PSTAT.RESID` (R36). -/
  resid : Nat
  /-- The answers the input source has ready, oldest first (R38); they outlive a run (log 25). -/
  inQ : List InItem
  /-- The bytes the sink has received, oldest first (R39). -/
  sink : List Byte
  /-- How many more bytes the sink is ready to accept (45_io.md R209); it outlives a run (log 25). -/
  credit : Nat
  /-- The items waiting at the program port, oldest first (R40), in every `STATUS` (log 24). -/
  progQ : List ProgItem
  /-- The items waiting at the packer's input port, oldest first (R40). -/
  packQ : List PackItem
  /-- The items the packer's current or last call has emitted, oldest first (R40). -/
  packOut : List PackOut
  /-- How the packer's output stream was closed; `none` while it is open (R40). -/
  packClose : Option Close
  /-- Does the packer's output stream feed the program port (42_execution_cycle.md R162)? -/
  wired : Bool
  /-- MODEL'S OWN: the agents that move next, first first; when it is empty the run moves (log 1). -/
  turns : List Turn
  /-- MODEL'S OWN: the counter behind the free values (log 4). -/
  tick : Nat
  deriving DecidableEq, Repr

/-- The machine right after reset (10_state.md R43, 70_reset_and_hazards.md R260). `TAPE`, `IMEM` and
`JT` hold unspecified contents: a free tape, no position, no entry. -/
def State.reset : State where
  pc := 0
  ptr := 0
  tape := { fresh := .unspecified 0, cells := [] }
  outcnt := 0
  ineof := false
  imem := []
  jt := []
  scan := 0
  bstack := []
  cfg := Cfg.default
  status := .idle
  fcause := .none
  fpos := 0
  pop := .b2i
  acc := 0
  cnt := 0
  phase := .idle
  pad := false
  resid := 0
  inQ := []
  sink := []
  credit := 0
  progQ := []
  packQ := []
  packOut := []
  packClose := none
  wired := false
  turns := []
  tick := 1

/-- What a meaning and a step answer. -/
abbrev Result := Host.Outcome State Fault Refusal

end Machine
end Sys2Proof
end

