-- ==== Sys2Proof/Machine/Ops.lean ====
section
/-! DEFINITION. The operations over memory and registers: association lists in canonical form, the tape,
the jump table, the register updates, raising a fault (60_exceptions.md R236) and the start of
execution (42_execution_cycle.md R161). -/

namespace Sys2Proof
namespace Machine

variable {κ ν : Type}

/-- The value listed for a key. -/
def assocGet? [DecidableEq κ] (l : List (κ × ν)) (i : κ) : Option ν :=
  match l with
  | [] => none
  | (k, v) :: r => if k = i then some v else assocGet? r i

/-- The list with `i` listed as `x`, keys kept rising. -/
def assocSet [DecidableEq κ] [LT κ] [DecidableLT κ] (i : κ) (x : ν) (l : List (κ × ν)) : List (κ × ν) :=
  match l with
  | [] => [(i, x)]
  | (k, v) :: r =>
    if i < k then (i, x) :: (k, v) :: r
    else if k = i then (i, x) :: r
    else (k, v) :: assocSet i x r

/-- The list without an entry for `i`. -/
def assocErase [DecidableEq κ] (i : κ) (l : List (κ × ν)) : List (κ × ν) :=
  match l with
  | [] => []
  | (k, v) :: r => if k = i then r else (k, v) :: assocErase i r

/-- Keys strictly rising: the canonical form of an association list. -/
abbrev keysRise [LT κ] (l : List (κ × ν)) : Prop := (l.map Prod.fst).Pairwise (· < ·)

/-- What an unlisted cell reads as: 0 once a run has zeroed the tape (10_state.md R24, "defaulting every
unread index to zero"; 42_execution_cycle.md R161), a free value before that and after a fault
(10_state.md R43, R45). -/
def Background.value (b : Background) (i : Int) : Int :=
  match b with
  | .zero => 0
  | .unspecified occasion => Config.freeCell occasion i

/-- The canonical form: indices strictly rising, no entry equal to what an unlisted cell reads as. -/
abbrev Memory.wf (m : Memory) : Prop :=
  keysRise m.cells ∧ ∀ c ∈ m.cells, c.2 ≠ m.fresh.value c.1

/-- The value of the cell at an index: `TAPE[i]` (00_scope.md R13). -/
def Memory.read (m : Memory) (i : Int) : Int := (assocGet? m.cells i).getD (m.fresh.value i)

/-- The tape after `TAPE[i] <- v` (00_scope.md R13). -/
def Memory.write (m : Memory) (i v : Int) : Memory :=
  { m with cells := if v = m.fresh.value i then assocErase i m.cells else assocSet i v m.cells }

/-- The tape the start of a run leaves: every cell 0 (42_execution_cycle.md R161). -/
def Memory.zeroed : Memory := { fresh := .zero, cells := [] }

/-- A tape of which nothing is known. -/
def Memory.unknown (occasion : Nat) : Memory := { fresh := .unspecified occasion, cells := [] }

/-- `L`, the length of the program (10_state.md R26). -/
def State.len (s : State) : Nat := s.imem.length

/-- `JT[i]`. An entry the table does not hold is unspecified: a free value (10_state.md R27; log 6). -/
def State.jump (s : State) (i : Nat) : Nat := (assocGet? s.jt i).getD (Config.freeJump s.tick i)

/-- `PC <- v`. -/
def State.setPc (s : State) (v : Nat) : State := { s with pc := v }

/-- `PTR <- v`. -/
def State.setPtr (s : State) (v : Int) : State := { s with ptr := v }

/-- `TAPE[PTR] <- v`. -/
def State.setCell (s : State) (v : Int) : State := { s with tape := s.tape.write s.ptr v }

/-- `PC <- PC + 1`, the last action of every step that does not fault (42_execution_cycle.md R167). -/
def State.advance (s : State) : State := { s with pc := s.pc + 1 }

/-- The sink receives a byte and `OUTCNT <- OUTCNT + 1` (45_io.md R201); the acceptance is used up. -/
def State.deliver (s : State) (b : Byte) : State :=
  { s with sink := s.sink ++ [b], outcnt := s.outcnt + 1, credit := s.credit - 1 }

/-- One answer of the input source is consumed (10_state.md R38). -/
def State.consumeInput (s : State) : State := { s with inQ := s.inQ.tail }

/-- The turn at the head has been taken (log 1). -/
def State.popTurn (s : State) : State := { s with turns := s.turns.tail }

/-- `raise F(info)` of the run: `STATUS <- FAULTED`, `FCAUSE`, `FPOS` (60_exceptions.md R236). Everything
whose value R45 of 10_state.md leaves unspecified in `FAULTED` becomes a free value (log 4). -/
def State.raise (s : State) (f : Cause) (info : Nat) : State :=
  { s with
    status := .faulted
    fcause := f
    fpos := info
    pc := Config.freePc s.tick
    ptr := Config.freePtr s.tick
    tape := Memory.unknown s.tick
    outcnt := Config.freeOutcnt s.tick
    ineof := Config.freeIneof s.tick
    jt := []
    scan := Config.freeScan s.tick
    bstack := Config.freeBstack s.tick
    tick := s.tick + 1 }

/-- The start of execution, one step (42_execution_cycle.md R161). DESIGN CHOICE: input answers and
acceptances that an earlier run left unused stay and serve this run (log 25). -/
def State.startExec (s : State) : State :=
  { s with
    pc := 0
    ptr := 0
    tape := Memory.zeroed
    outcnt := 0
    ineof := false
    status := .run }

end Machine
end Sys2Proof
end

