-- ==== Sys2Proof/Machine/Flags.lean ====
section
/-! DEFINITION. Flags. The hardware has no condition codes (10_state.md R37): what there is are the zero
test of the brackets, which leaves nothing behind, and the sticky end-of-input bit `INEOF`. -/

namespace Sys2Proof
namespace Machine

/-- The zero test of `[` and `]`: the cell as an integer (46_loop_control.md R215). -/
def cellIsZero (v : Int) : Bool := v == 0

/-- `INEOF <- 1` (45_io.md R204). -/
def State.latchEof (s : State) : State := { s with ineof := true }

end Machine
end Sys2Proof
end

