-- ==== Sys2Proof/Machine/Operands.lean ====
section
/-! DEFINITION. The operand forms. No instruction encodes an operand (30_encoding.md R94): every one acts
on the current cell `TAPE[PTR]`, on `PTR` under the range policy, or on the two streams. -/

namespace Sys2Proof
namespace Machine

/-- The indices the tape has: `0 .. N-1`; on a dynamic tape the indices `>= 0`, or with `WRAP = 1` every
integer (20_memory.md R68). -/
def validIndex (c : Cfg) (i : Int) : Bool :=
  if 0 < c.n then decide (0 ≤ i ∧ i < (c.n : Int)) else c.wrap || decide (0 ≤ i)

/-- `Norm(v)`, the floored reduction to the cell width (44_cell_arith.md R192, 45_io.md R206). -/
def norm (w : Nat) (v : Int) : Int := if 0 < w then v % ((2 ^ w : Nat) : Int) else v

/-- A cell value modulo 256, floored, as the byte `.` writes (45_io.md R201, decision D14). -/
def outByte (v : Int) : Byte := BitVec.ofNat 8 (v % 256).toNat

/-- The current cell; an instruction that accesses it while `PTR` is no index of the tape stops (log 10). -/
def withCell (s : State) (k : Int → Result) : Result :=
  if validIndex s.cfg s.ptr then k (s.tape.read s.ptr) else .fault .noSuchCell

/-- Where a move of the pointer by `d` lands; `none` where it raises `PointerOutOfRange` (43_pointer.md R183;
on a dynamic tape decision D11, log 16). -/
def moveTarget (c : Cfg) (ptr d : Int) : Option Int :=
  if 0 < c.n then
    if c.wrap then some ((ptr + d) % (c.n : Int))
    else if 0 ≤ ptr + d ∧ ptr + d < (c.n : Int) then some (ptr + d)
    else none
  else if c.wrap then some (ptr + d)
  else if 0 ≤ ptr + d then some (ptr + d)
  else none

/-- `MovePointer(d)` and the advance (43_pointer.md R183, 42_execution_cycle.md R167, R170). -/
def movePointer (d : Int) (s : State) : Result :=
  match moveTarget s.cfg s.ptr d with
  | some p => .next (s.setPtr p).advance
  | none => .next (s.raise .pointerOutOfRange s.pc)

/-- `TAPE[PTR] <- Norm(TAPE[PTR] + d)` and the advance (44_cell_arith.md R190, R191). -/
def addToCell (d : Int) (s : State) : Result :=
  withCell s fun v => .next (s.setCell (norm s.cfg.w (v + d))).advance

/-- The item a `,` receives and the state after it: `eof` again once `INEOF` is set, else the source's
next answer; `none` while the source has not answered, a hold (45_io.md R204, R205, R209). -/
def takeInput (s : State) : Option (InItem × State) :=
  if s.ineof then some (.eof, s)
  else
    match s.inQ with
    | [] => none
    | x :: _ => some (x, s.consumeInput)

/-- The advance of a bracket instruction: from `JT[PC]` if it jumps, from `PC` if it falls through
(46_loop_control.md R218). -/
def branch (jumps : Bool) (s : State) : State :=
  if jumps then (s.setPc (s.jump s.pc)).advance else s.advance

end Machine
end Sys2Proof
end

