-- ==== Sys2Proof/Machine/Arith.lean ====
section
/-! DEFINITION. The cell arithmetic instructions `+` and `-` (44_cell_arith.md). -/

namespace Sys2Proof
namespace Machine

/-- `+`: `TAPE[PTR] <- Norm(TAPE[PTR] + 1)` (44_cell_arith.md R190). -/
def execInc (s : State) : Result := addToCell 1 s

/-- `-`: `TAPE[PTR] <- Norm(TAPE[PTR] - 1)` (44_cell_arith.md R191). -/
def execDec (s : State) : Result := addToCell (-1) s

end Machine
end Sys2Proof
end

