-- ==== Sys2Proof/Machine/Io.lean ====
section
/-! DEFINITION. The input and output instructions `,` and `.` (45_io.md). An instruction that waits for
the host holds: the step has not happened and the state is unchanged (R209; log 2). -/

namespace Sys2Proof
namespace Machine

/-- `.`: the cell modulo 256 to the sink, `OUTCNT + 1` (45_io.md R201); a hold while the sink does not
accept (R209). -/
def execOut (s : State) : Result :=
  withCell s fun v =>
    if s.credit = 0 then .next s else .next (s.deliver (outByte v)).advance

/-- `TAPE[PTR] <- Norm(v)` and the advance (45_io.md R206). -/
def storeInput (s : State) (v : Int) : Result :=
  withCell s fun _ => .next (s.setCell (norm s.cfg.w v)).advance

/-- `,`: one input item into the cell; at end of input `INEOF <- 1` and the policy (45_io.md R204, R205). -/
def execIn (s : State) : Result :=
  match takeInput s with
  | none => .next s
  | some (.byte b, t) => storeInput t (b.toNat : Int)
  | some (.eof, t) =>
    match t.cfg.eofmode with
    | .fill => storeInput t.latchEof t.cfg.fill
    | .noChange => .next t.latchEof.advance

end Machine
end Sys2Proof
end

