-- ==== Sys2Proof/Machine/Loop.lean ====
section
/-! DEFINITION. The loop control instructions `[` and `]` (46_loop_control.md). -/

namespace Sys2Proof
namespace Machine

/-- `[`: if the current cell is zero, `PC <- JT[PC]`; then the advance (46_loop_control.md R216). -/
def execOpen (s : State) : Result :=
  withCell s fun v => .next (branch (cellIsZero v) s)

/-- `]`: if the current cell is not zero, `PC <- JT[PC]`; then the advance (46_loop_control.md R217). -/
def execClose (s : State) : Result :=
  withCell s fun v => .next (branch (!cellIsZero v) s)

end Machine
end Sys2Proof
end

