-- ==== Sys2Proof/Machine/Pointer.lean ====
section
/-! DEFINITION. The pointer instructions `>` and `<` (43_pointer.md). -/

namespace Sys2Proof
namespace Machine

/-- `>`: `MovePointer(+1)` (43_pointer.md R181). -/
def execRight (s : State) : Result := movePointer 1 s

/-- `<`: `MovePointer(-1)` (43_pointer.md R182). -/
def execLeft (s : State) : Result := movePointer (-1) s

end Machine
end Sys2Proof
end

