-- ==== Sys2Proof/Machine/Dispatch.lean ====
section
/-! DEFINITION. The single dispatch point (42_execution_cycle.md R165): one arm per instruction. -/

namespace Sys2Proof
namespace Machine

def exec (i : Instr) (s : State) : Host.Outcome State Fault Refusal :=
  match i with
  | .right => Sys2Proof.Machine.execRight s
  | .left => Sys2Proof.Machine.execLeft s
  | .inc => Sys2Proof.Machine.execInc s
  | .dec => Sys2Proof.Machine.execDec s
  | .out => Sys2Proof.Machine.execOut s
  | .in_ => Sys2Proof.Machine.execIn s
  | .open_ => Sys2Proof.Machine.execOpen s
  | .close => Sys2Proof.Machine.execClose s

end Machine
end Sys2Proof
end

