-- ==== Sys2Proof/Machine/JumpTable.lean ====
section
/-! DEFINITION. The jump-table builder `JTB` (41_jump_table.md): the scan step, the unit's transition and
the function `build_jump_table`. -/

namespace Sys2Proof
namespace Machine

/-- One scan step at position `pos`: the stack and the table after it; `none` at a close bracket with an
empty stack (41_jump_table.md R142, R143, R144, R146). -/
def scanOne (c : Code) (pos : Nat) (stack : List Nat) (jt : JumpTable) : Option (List Nat × JumpTable) :=
  match decode c with
  | .open_ => some (stack ++ [pos], jt)
  | .close =>
    match stack.getLast? with
    | some o => some (stack.dropLast, assocSet pos o (assocSet o pos jt))
    | none => none
  | .right | .left | .inc | .dec | .out | .in_ => some (stack, jt)

/-- Preprocessing starts (41_jump_table.md R141). -/
def State.beginPrep (s : State) : State :=
  { s with scan := 0, bstack := [], jt := [], status := .prep }

/-- The scan has passed one position. -/
def State.scanned (s : State) (stack : List Nat) (jt : JumpTable) : State :=
  { s with bstack := stack, jt := jt, scan := s.scan + 1 }

/-- One transition of `JTB` (41_jump_table.md R142 to R146); the final step that succeeds is the start of
execution (42_execution_cycle.md R161; log 20). -/
def prepStep (s : State) : State :=
  match s.imem[s.scan]? with
  | some c =>
    match scanOne c s.scan s.bstack s.jt with
    | some (stack, jt) => s.scanned stack jt
    | none => s.raise .unmatchedCloseBracket s.scan
  | none =>
    match s.bstack with
    | [] => s.startExec
    | o :: _ => s.raise .unmatchedOpenBracket o

/-- A failure of `build_jump_table` (41_jump_table.md R147). -/
inductive JtFault where
  /-- A `]` without a `[` at the position. -/
  | unmatchedClose (pos : Nat)
  /-- A `[` without a `]` at the position. -/
  | unmatchedOpen (pos : Nat)
  deriving DecidableEq, Repr

/-- The scan of a piece of program from position `pos` on: the stack and the table after it, or the
position of the `]` at which it stops (41_jump_table.md R140). -/
def scanCodes (p : List Code) (pos : Nat) (stack : List Nat) (jt : JumpTable) :
    Except Nat (List Nat × JumpTable) :=
  match p with
  | [] => .ok (stack, jt)
  | c :: cs =>
    match scanOne c pos stack jt with
    | some (stack', jt') => scanCodes cs (pos + 1) stack' jt'
    | none => .error pos

/-- `build_jump_table(program)` as a function (41_jump_table.md R147, computed by the scan of R140). -/
def buildJumpTable (p : List Code) : Except JtFault JumpTable :=
  match scanCodes p 0 [] [] with
  | .error i => .error (.unmatchedClose i)
  | .ok ([], jt) => .ok jt
  | .ok (o :: _, _) => .error (.unmatchedOpen o)

end Machine
end Sys2Proof
end

