-- ==== Sys2Proof/Machine/Load.lean ====
section
/-! DEFINITION. Starting and loading a run (42_execution_cycle.md R160, R162, R163). -/

namespace Sys2Proof
namespace Machine

/-- The statuses in which no run is in progress: a start command and configuration writes are accepted
(42_execution_cycle.md R160, 10_state.md R30). -/
def Status.settled : Status → Bool
  | .idle => true
  | .load => false
  | .prep => false
  | .run => false
  | .halted => true
  | .faulted => true
  | .refused => true

/-- The start command: accepted only when no run is in progress, else no effect (42_execution_cycle.md R160).
DESIGN CHOICE: it drops no item that waits at the program port (log 24), no answer that waits at the input
source and no acceptance of the sink (log 25). -/
def State.startRun (s : State) : State :=
  if s.status.settled then
    { s with fcause := .none, fpos := 0, imem := [], status := .load }
  else s

/-- The item at the program port has been consumed. -/
def State.consumeProgram (s : State) : State := { s with progQ := s.progQ.tail }

/-- `IMEM[L] <- c`, `L <- L + 1` (42_execution_cycle.md R162). -/
def State.appendCode (s : State) (c : Code) : State := { s with imem := s.imem ++ [c] }

/-- The run is refused: `STATUS <- REFUSED`, `FCAUSE <- 5`, nothing else (42_execution_cycle.md R162,
60_exceptions.md R238). -/
def State.refuse (s : State) : State := { s with status := .refused, fcause := .unsupported }

/-- The program is void: the instructions received are discarded (42_execution_cycle.md R163; log 7). -/
def State.discardProgram (s : State) : State := { s with imem := [] }

/-- One transition of the loader (42_execution_cycle.md R162, R163); without an item it waits (R270). -/
def loadStep (supp : Config.Support) (s : State) : State :=
  match s.progQ with
  | [] => s
  | .code c :: _ => s.consumeProgram.appendCode c
  | .closed .fin :: _ =>
    if supp s.cfg s.len then s.consumeProgram.beginPrep else s.consumeProgram.refuse
  | .closed .abort :: _ => (s.consumeProgram.discardProgram).raise .incompleteGroup s.len

end Machine
end Sys2Proof
end

