-- ==== Sys2Proof/Machine/Packer.lean ====
section
/-! DEFINITION. The bit-packer `PACK` (40_packer.md): the four operations as functions of the whole input
sequence, and the unit's transitions over stream items. -/

namespace Sys2Proof
namespace Machine

/-- Bit `k` of a sequence as a number; 0 past its end (the padding of 40_packer.md R121). -/
def bitAt (s : List Bit) (k : Nat) : Nat := (s.getD k false).toNat

/-- `B2I`, function form: the codes, or the number of leftover bits of the fault `IncompleteGroup`
(40_packer.md R112). -/
def b2i (s : List Bit) : Except Nat (List Code) :=
  if s.length % 3 = 0 then
    .ok ((List.range (s.length / 3)).map fun g =>
      BitVec.ofNat 3 (4 * bitAt s (3 * g) + 2 * bitAt s (3 * g + 1) + bitAt s (3 * g + 2)))
  else .error (s.length % 3)

/-- The three bits of a code, most significant first (40_packer.md R118). -/
def codeBits (c : Code) : List Bit := [c.getLsbD 2, c.getLsbD 1, c.getLsbD 0]

/-- `I2B`, function form (40_packer.md R117). -/
def i2b (c : List Code) : List Bit := c.flatMap codeBits

/-- The byte at group `g`, the missing bits of a short group zero (40_packer.md R121). -/
def byteAt (s : List Bit) (g : Nat) : Byte :=
  BitVec.ofNat 8 ((List.range 8).map fun j => bitAt s (8 * g + j) * 2 ^ (7 - j)).sum

/-- `B2Y`, function form: the bytes and the diagnostic `PAD` (40_packer.md R121). -/
def b2y (s : List Bit) : List Byte × Bool :=
  ((List.range ((s.length + 7) / 8)).map (byteAt s), decide (0 < s.length % 8))

/-- The eight bits of a byte, most significant first (40_packer.md R129). -/
def byteBits (v : Byte) : List Bit := (List.range 8).map fun j => v.getLsbD (7 - j)

/-- `Y2B`, function form (40_packer.md R128). -/
def y2b (y : List Byte) : List Bit := y.flatMap byteBits

/-- A program as a byte image: `I2B` then `B2Y` (30_encoding.md R97). It does not carry its length
(70_reset_and_hazards.md R268). -/
def programImage (c : List Code) : List Byte × Bool := b2y (i2b c)

/-- The program read back from a bit sequence (30_encoding.md R96). -/
def decodeBits (s : List Bit) : Except Nat (List Instr) := (b2i s).map (·.map decode)

/-- `emit`: the item joins the output stream, which is the program port's if the two are connected and
the item is a code (40_packer.md R131, 42_execution_cycle.md R162). -/
def State.emit (s : State) (x : PackOut) : State :=
  { s with
    packOut := s.packOut ++ [x]
    progQ :=
      match x with
      | .code c => if s.wired then s.progQ ++ [.code c] else s.progQ
      | .bit _ | .byte _ => s.progQ }

/-- Emit several items in order. -/
def State.emitAll (s : State) (xs : List PackOut) : State := xs.foldl State.emit s

/-- The output stream is closed (10_state.md R40); a `B2I` stream that feeds the program port closes it. -/
def State.closeOut (s : State) (how : Close) : State :=
  { s with
    packClose := some how
    progQ :=
      match s.pop with
      | .b2i => if s.wired then s.progQ ++ [.closed how] else s.progQ
      | .i2b | .b2y | .y2b => s.progQ }

/-- `ACC` and `CNT` as given. -/
def State.setGroup (s : State) (acc cnt : Nat) : State := { s with acc := acc, cnt := cnt }

/-- `PSTAT.PHASE <- v`. -/
def State.setPhase (s : State) (v : Phase) : State := { s with phase := v }

/-- The start of a call; no effect while one is in progress (40_packer.md R111). -/
def State.beginCall (s : State) : State :=
  match s.phase with
  | .busy => s
  | .idle | .done | .failed =>
    { s with
      acc := 0, cnt := 0, pad := false, resid := 0, phase := .busy, packOut := [], packClose := none }

/-- A bit enters the group, which is emitted when it has `k` bits (40_packer.md R113, R123). -/
def State.takeBit (s : State) (k : Nat) (item : Nat → PackOut) (b : Bit) : State :=
  if s.cnt + 1 = k then (s.emit (item (2 * s.acc + b.toNat))).setGroup 0 0
  else s.setGroup (2 * s.acc + b.toNat) (s.cnt + 1)

/-- A group of three bits as a code (log 21). -/
def groupCode (acc : Nat) : PackOut := .code (BitVec.ofNat 3 acc)

/-- A group of eight bits as a byte (log 21). -/
def groupByte (acc : Nat) : PackOut := .byte (BitVec.ofNat 8 acc)

/-- `B2I` at `end` (40_packer.md R114): success, or `IncompleteGroup` (60_exceptions.md R231, R236). -/
def State.endB2i (s : State) : State :=
  if s.cnt = 0 then (s.closeOut .fin).setPhase .done
  else ({ s with resid := s.cnt }.closeOut .abort).setPhase .failed

/-- `B2Y` at `end` (40_packer.md R125): a short group is padded on the right and reported. -/
def State.endB2y (s : State) : State :=
  if 0 < s.cnt then
    ((({ s with pad := true }.emit (groupByte (s.acc * 2 ^ (8 - s.cnt)))).setGroup 0 0).closeOut .fin).setPhase .done
  else (s.closeOut .fin).setPhase .done

/-- The item at the packer's input port has been consumed. -/
def State.consumePack (s : State) : State := { s with packQ := s.packQ.tail }

/-- The transition of the unit on one item, by `POP` (40_packer.md R113, R114, R118, R123, R125, R129).
An item of another type than the port's cannot arrive (R110) and is refused (log 13). -/
def packItem (s : State) (x : PackItem) : Result :=
  match s.pop, x with
  | .b2i, .bit b  => .next (s.takeBit 3 groupCode b)
  | .b2i, .fin    => .next s.endB2i
  | .i2b, .code c => .next (s.emitAll ((codeBits c).map .bit))
  | .i2b, .fin    => .next ((s.closeOut .fin).setPhase .done)
  | .b2y, .bit b  => .next (s.takeBit 8 groupByte b)
  | .b2y, .fin    => .next s.endB2y
  | .y2b, .byte v => .next (s.emitAll ((byteBits v).map .bit))
  | .y2b, .fin    => .next ((s.closeOut .fin).setPhase .done)
  | .b2i, .code _ => .refused .packItemOfOtherType
  | .b2i, .byte _ => .refused .packItemOfOtherType
  | .i2b, .bit _  => .refused .packItemOfOtherType
  | .i2b, .byte _ => .refused .packItemOfOtherType
  | .b2y, .code _ => .refused .packItemOfOtherType
  | .b2y, .byte _ => .refused .packItemOfOtherType
  | .y2b, .bit _  => .refused .packItemOfOtherType
  | .y2b, .code _ => .refused .packItemOfOtherType

/-- One transition of `PACK`: while a call is in progress it consumes the item before it; otherwise, and
without an item, it waits (40_packer.md R110, R132; log 14). -/
def packStep (s : State) : Result :=
  match s.phase, s.packQ with
  | .busy, x :: _ => packItem s.consumePack x
  | .busy, [] => .next s
  | .idle, _ => .next s
  | .done, _ => .next s
  | .failed, _ => .next s

end Machine
end Sys2Proof
end

