-- ==== Sys2Proof/Machine/HostPort.lean ====
section
/-! DEFINITION. The host's side (60_exceptions.md R251): its moves, the numeric codes of what it reads, and
what it may read when (10_state.md R45). -/

namespace Sys2Proof
namespace Machine

/-- A configuration write: only while no run is in progress, else no effect (10_state.md R30). -/
def State.writeCfg (s : State) (c : Cfg) : State := if s.status.settled then { s with cfg := c } else s

/-- A write of `POP`: no effect while a call is in progress (40_packer.md R110; log 11). -/
def State.writePop (s : State) (op : PackOp) : State :=
  match s.phase with
  | .busy => s
  | .idle | .done | .failed => { s with pop := op }

/-- Reset, at any time (70_reset_and_hazards.md R260): every piece of state at its value after reset, the
tape unspecified anew. What was delivered stays delivered; the streams are abandoned; the turns not yet
taken are the future and stay (log 15). -/
def State.hostReset (s : State) : State :=
  { State.reset with
    tape := Memory.unknown s.tick
    sink := s.sink
    packOut := s.packOut
    packClose := s.packClose
    turns := s.turns
    tick := s.tick + 1 }

/-- The effect of a host move (60_exceptions.md R251). DESIGN CHOICE: an item is taken in whatever `STATUS`
and `PSTAT.PHASE` are, behind a close too, and waits until its unit consumes it: at the program port for the
next load (log 24), at the input source and the sink for the next `,` and `.` of any run (log 25), at the
packer for the next call (log 14). -/
def hostStep (m : HostMove) (s : State) : State :=
  match m with
  | .writeW v => s.writeCfg { s.cfg with w := v }
  | .writeN v => s.writeCfg { s.cfg with n := v }
  | .writeWrap v => s.writeCfg { s.cfg with wrap := v }
  | .writeEofMode v => s.writeCfg { s.cfg with eofmode := v }
  | .writeFill v => s.writeCfg { s.cfg with fill := v }
  | .start => s.startRun
  | .program x => { s with progQ := s.progQ ++ [x] }
  | .input x => { s with inQ := s.inQ ++ [x] }
  | .accept => { s with credit := s.credit + 1 }
  | .writePop op => s.writePop op
  | .packStart => s.beginCall
  | .packItem x => { s with packQ := s.packQ ++ [x] }
  | .wire v => { s with wired := v }
  | .reset => s.hostReset

/-- The code of `STATUS` (10_state.md R31). -/
def Status.code : Status → Nat
  | .idle => 0
  | .load => 1
  | .prep => 2
  | .run => 3
  | .halted => 4
  | .faulted => 5
  | .refused => 6

/-- The code of `FCAUSE` (10_state.md R32). -/
def Cause.code : Cause → Nat
  | .none => 0
  | .incompleteGroup => 1
  | .unmatchedOpenBracket => 2
  | .unmatchedCloseBracket => 3
  | .pointerOutOfRange => 4
  | .unsupported => 5

/-- The code of `POP` (10_state.md R35). -/
def PackOp.code : PackOp → Nat
  | .b2i => 0
  | .i2b => 1
  | .b2y => 2
  | .y2b => 3

/-- The code of `PSTAT.PHASE` (10_state.md R36). -/
def Phase.code : Phase → Nat
  | .idle => 0
  | .busy => 1
  | .done => 2
  | .failed => 3

/-- The code of `CFG.EOFMODE` (10_state.md R29). -/
def eofModeCode : EofMode → Nat
  | .noChange => 0
  | .fill => 1

/-- What the host reads at any time: `STATUS`, `FCAUSE`, `FPOS`, `PSTAT` (phase, `PAD`, `RESID`) and the
configuration registers (10_state.md R45). -/
def State.observeAlways (s : State) : Nat × Nat × Nat × (Nat × Bool × Nat) × Cfg :=
  (s.status.code, s.fcause.code, s.fpos, (s.phase.code, s.pad, s.resid), s.cfg)

/-- What the host reads in `HALTED` and at no other time: `TAPE`, `PTR`, `PC`, `OUTCNT` (10_state.md R45). -/
def State.observeFinal (s : State) : Option (Memory × Int × Nat × Nat) :=
  match s.status with
  | .halted => some (s.tape, s.ptr, s.pc, s.outcnt)
  | .idle | .load | .prep | .run | .faulted | .refused => none

end Machine
end Sys2Proof
end

