-- ==== Sys2Proof/Machine/Cycle.lean ====
section
/-! DEFINITION. The cycle: fetch, dispatch, end of run (42_execution_cycle.md R164 to R168), the phases of
the run (R160), and whose turn it is (00_scope.md R10; log 1). -/

namespace Sys2Proof
namespace Machine

/-- Fetch: the instruction at `PC`, while `PC` is within the program (42_execution_cycle.md R164). -/
def State.fetch (s : State) : Option Instr := (s.imem[s.pc]?).map decode

/-- `STATUS <- HALTED`; no other state changes (42_execution_cycle.md R168). -/
def State.halt (s : State) : State := { s with status := .halted }

/-- One step of `EXEC` (42_execution_cycle.md R166, R168, R174). -/
def execStep (s : State) : Result :=
  match s.fetch with
  | some i => exec i s
  | none => .next s.halt

/-- One transition of the run: the unit its phase names; in `IDLE`, `HALTED`, `FAULTED` and `REFUSED` no
unit of the run has an enabled step (42_execution_cycle.md R160, 60_exceptions.md R236). -/
def runStep (supp : Config.Support) (s : State) : Result :=
  match s.status with
  | .idle => .next s
  | .load => .next (loadStep supp s)
  | .prep => .next (prepStep s)
  | .run => execStep s
  | .halted => .next s
  | .faulted => .next s
  | .refused => .next s

/-- One step of the core: the agent whose turn it is moves; the run, when no turn is listed (log 1).
`supp` is the parameter of 00_scope.md R8. -/
def stepWith (supp : Config.Support) (s : State) : Result :=
  match s.turns with
  | [] => runStep supp s
  | .run :: _ => runStep supp s.popTurn
  | .pack :: _ => packStep s.popTurn
  | .host m :: _ => .next (hostStep m s.popTurn)

/-- The program and the position that let an instruction be fetched: itself alone, a bracket with its
partner, since a program with an unmatched bracket never runs (41_jump_table.md R149; log 3). -/
def fetchProgram (c : Code) : List Code × JumpTable × Nat :=
  match decode c with
  | .open_ => ([c, encode .close], [(0, 1), (1, 0)], 0)
  | .close => ([encode .open_, c], [(0, 1), (1, 0)], 1)
  | .right | .left | .inc | .dec | .out | .in_ => ([c], [], 0)

/-- The state with the run started, unless it is already running, and a host that will answer one request,
so that the next step is the fetched instruction's (log 3). -/
def State.readyToFetch (s : State) : State :=
  let t := match s.status with
    | .run => s
    | .idle | .load | .prep | .halted | .faulted | .refused => s.startExec
  { t with
    inQ := if t.inQ = [] then [.eof] else t.inQ
    credit := if t.credit = 0 then 1 else t.credit
    turns := .run :: t.turns }

/-- The state with the program that holds code `c` loaded and its jump table built, `PC` at `c`. -/
def State.loadForFetch (s : State) (c : Code) : State :=
  match fetchProgram c with
  | (imem, jt, pc) => { s.readyToFetch with imem := imem, jt := jt, pc := pc }

end Machine
end Sys2Proof
end

