-- ==== Sys2Proof/Machine/Step.lean ====
section
/-! DEFINITION. The step of the machine, with the reference value of `Supported` (00_scope.md R8), and the
placing of one instruction for the next fetch. -/

namespace Sys2Proof
namespace Machine

/-- One step of the machine. -/
def step : State → Host.Outcome State Fault Refusal := stepWith Config.supported

/-- The state whose next step fetches and runs the instruction with the code in the low three bits of `w`
(log 3). `nbits` is the width of the word around the code. -/
def State.withFetchWord (s : State) (nbits w : Nat) : State :=
  if nbits = 0 then s else s.loadForFetch (BitVec.ofNat 3 w)

end Machine
end Sys2Proof
end

