-- ==== Sys2Proof/Safety.lean ====
section
/-! DEFINITION. What the claims call a sound state: the invariant of the machine, in parts, and the ways
two states can agree. -/

namespace Sys2Proof
namespace Machine

/-- What holds while `EXEC` runs: `PC` within the program or at its end (42_execution_cycle.md R169), the
pointer in range (43_pointer.md R185), a zeroed tape whose written cells lie in it (10_state.md R23) and
have the cell width (R25), and the table the program's own (10_state.md R27). -/
def State.RunOk (s : State) : Prop :=
  s.status = .run →
    s.pc ≤ s.len ∧
    validIndex s.cfg s.ptr = true ∧
    s.tape.fresh = .zero ∧
    (∀ c ∈ s.tape.cells, validIndex s.cfg c.1 = true) ∧
    (0 < s.cfg.w → ∀ c ∈ s.tape.cells, 0 ≤ c.2 ∧ c.2 < ((2 ^ s.cfg.w : Nat) : Int)) ∧
    buildJumpTable s.imem = .ok s.jt

/-- What holds while `JTB` scans: `BSTACK` and `JT` are those of the scanned part (41_jump_table.md R140). -/
def State.PrepOk (s : State) : Prop :=
  s.status = .prep →
    s.scan ≤ s.len ∧ scanCodes (s.imem.take s.scan) 0 [] [] = .ok (s.bstack, s.jt)

/-- In `HALTED`, `PC = L` (42_execution_cycle.md R168, R169). -/
def State.HaltOk (s : State) : Prop := s.status = .halted → s.pc = s.len

/-- `FCAUSE` names a cause exactly in `FAULTED` and `REFUSED`, and `FPOS` is 0 where no position is named
(10_state.md R32, R33). -/
def State.StatusOk (s : State) : Prop :=
  (s.fcause = .none ↔ s.status ≠ .faulted ∧ s.status ≠ .refused) ∧
  (s.fcause = .unsupported ↔ s.status = .refused) ∧
  (s.fcause = .none ∨ s.fcause = .unsupported → s.fpos = 0)

/-- The bits a group has room for before it is emitted (10_state.md R35): none is used by `I2B` and `Y2B`. -/
def PackOp.room : PackOp → Nat
  | .b2i => 2
  | .i2b => 0
  | .b2y => 7
  | .y2b => 0

/-- The packer's registers hold what 10_state.md R35 and R36 say they can hold. -/
def State.PackOk (s : State) : Prop :=
  s.cnt ≤ 7 ∧ s.acc < 2 ^ s.cnt ∧
  (s.phase = .busy → s.cnt ≤ s.pop.room) ∧
  (s.phase = .failed → s.resid = 1 ∨ s.resid = 2) ∧
  (s.phase ≠ .failed → s.resid = 0) ∧
  (s.pad = true → s.phase = .done)

/-- The invariant of the machine. -/
structure State.Inv (s : State) : Prop where
  /-- The tape is in canonical form. -/
  tape : s.tape.wf
  /-- The run, while it executes. -/
  run : s.RunOk
  /-- The scan, while it goes on. -/
  prep : s.PrepOk
  /-- The end of a run. -/
  halt : s.HaltOk
  /-- The status registers. -/
  status : s.StatusOk
  /-- The packer. -/
  pack : s.PackOk

/-- The packer's own state set aside: what `t` is with the packer of `s`. -/
def State.withPackOf (t s : State) : State :=
  { t with
    pop := s.pop, acc := s.acc, cnt := s.cnt, phase := s.phase, pad := s.pad, resid := s.resid
    packQ := s.packQ, packOut := s.packOut, packClose := s.packClose, wired := s.wired }

/-- A result with the packer of `s` in its next state. -/
def resultWithPackOf (r : Result) (s : State) : Result :=
  match r with
  | .next t => .next (t.withPackOf s)
  | .fault f => .fault f
  | .refused f => .refused f

/-- The machine with `Supported` at the value `supp` (00_scope.md R8). -/
def coreWith (supp : Config.Support) : Host.Core where
  State := State
  Fault := Fault
  Refusal := Refusal
  step := stepWith supp
  reset := State.reset

/-- `s` with what an earlier run may have left behind taken from `u`: the run's registers, the tape, the
program, the table, the scan and the fault record. -/
def State.withRunOf (s u : State) : State :=
  { s with
    pc := u.pc, ptr := u.ptr, tape := u.tape, outcnt := u.outcnt, ineof := u.ineof
    imem := u.imem, jt := u.jt, scan := u.scan, bstack := u.bstack
    fcause := u.fcause, fpos := u.fpos }

/-- `s` with what an earlier packer call may have left behind taken from `u`. -/
def State.withCallOf (s u : State) : State :=
  { s with
    acc := u.acc, cnt := u.cnt, pad := u.pad, resid := u.resid
    packOut := u.packOut, packClose := u.packClose }

/-- The state with the run's registers and the tape set aside. -/
def State.clearExec (s : State) : State :=
  { s with pc := 0, ptr := 0, tape := Memory.zeroed, outcnt := 0, ineof := false }

/-- The state with the table and the scan set aside. -/
def State.clearScan (s : State) : State := { s with jt := [], scan := 0, bstack := [] }

/-- The state with the program set aside. -/
def State.clearProgram (s : State) : State := { s with imem := [] }

/-- The part of a state on which its future depends: what its phase has not written yet, and what a run that
has ended leaves that the host does not read, is set aside. -/
def State.live (s : State) : State :=
  match s.status with
  | .idle    => s.clearExec.clearScan.clearProgram
  | .load    => s.clearExec.clearScan
  | .prep    => s.clearExec
  | .run     => s
  | .halted  => s.clearScan.clearProgram
  | .faulted => s.clearExec.clearScan.clearProgram
  | .refused => s.clearExec.clearScan.clearProgram

/-- The number of `[` among the positions `i .. j` of a program. -/
def opensIn (p : List Code) (i j : Nat) : Nat := ((p.drop i).take (j + 1 - i)).count (encode .open_)

/-- The number of `]` among the positions `i .. j` of a program. -/
def closesIn (p : List Code) (i j : Nat) : Nat := ((p.drop i).take (j + 1 - i)).count (encode .close)

/-- The same instruction `n` times, stopping where it does not answer a next state. -/
def execTimes (i : Instr) : Nat → State → Result
  | 0, s => .next s
  | n + 1, s =>
    match exec i s with
    | .next t => execTimes i n t
    | .fault f => .fault f
    | .refused f => .refused f

end Machine
end Sys2Proof
end

