-- ==== Sys2Proof/WellFormed.lean ====
section
/-! DEFINITION. The checks on what the machine is given. An instruction by itself is always well formed:
it has no field a value of which could be illegal (30_encoding.md R93, R94). What can be ill formed is a
word that is no 3-bit code, a program whose brackets do not match, and an item at the packer's port. -/

namespace Sys2Proof

/-- Every instruction is well formed (30_encoding.md R93: no illegal and no reserved encoding). -/
def Instr.wellFormed : Instr → Bool
  | .right => true
  | .left  => true
  | .inc   => true
  | .dec   => true
  | .out   => true
  | .in_   => true
  | .open_ => true
  | .close => true

/-- A word that holds a 3-bit code (30_encoding.md R91). -/
def wordWellFormed (nbits w : Nat) : Bool := decide (3 ≤ nbits ∧ w < 8)

/-- How many brackets are open after each prefix never falls below zero and ends at zero. -/
def bracketsMatch : Nat → List Instr → Bool
  | d, [] => d == 0
  | d, .open_ :: p => bracketsMatch (d + 1) p
  | 0, .close :: _ => false
  | d + 1, .close :: p => bracketsMatch d p
  | d, .right :: p => bracketsMatch d p
  | d, .left :: p => bracketsMatch d p
  | d, .inc :: p => bracketsMatch d p
  | d, .dec :: p => bracketsMatch d p
  | d, .out :: p => bracketsMatch d p
  | d, .in_ :: p => bracketsMatch d p

/-- A program that has a jump table (41_jump_table.md R149). -/
def programWellFormed (p : List Instr) : Bool := bracketsMatch 0 p

/-- An item of the type `POP` gives the packer's input port (10_state.md R35). -/
def packItemWellFormed : Machine.PackOp → Machine.PackItem → Bool
  | .b2i, .bit _  => true
  | .b2i, .code _ => false
  | .b2i, .byte _ => false
  | .b2i, .fin    => true
  | .i2b, .bit _  => false
  | .i2b, .code _ => true
  | .i2b, .byte _ => false
  | .i2b, .fin    => true
  | .b2y, .bit _  => true
  | .b2y, .code _ => false
  | .b2y, .byte _ => false
  | .b2y, .fin    => true
  | .y2b, .bit _  => false
  | .y2b, .code _ => false
  | .y2b, .byte _ => true
  | .y2b, .fin    => true

end Sys2Proof
end

