-- ==== Sys2Proof/Certificates/Slice0/Obligations.lean ====
section
/-! DEFINITION. The statements for the provers. Each says which rules of the spec it formalises, or that
it rests on a choice of the model and which log entry names it. -/

open Sys2Proof Sys2Proof.Machine

/-! ## Encoding -/

/-- 30_encoding.md R100: the code of a symbol is its index in the canonical sequence, for the assembler,
the encoder, the decoder and the opcode table's words. R91 (the word form is the model's): a word that holds
more or fewer than the three bits of a code is refused. -/
def Obligations.SymbolCodesAreTableIndices : Prop :=
  ['>', '<', '+', '-', '.', ',', '[', ']'].map Instr.ofSymbol =
      (List.range 8).map (fun k => some (decode (BitVec.ofNat 3 k))) ∧
  (List.range 8).map (decodeTableWord 8) =
      [some .right, some .left, some .inc, some .dec, some .out, some .in_, some .open_, some .close] ∧
  [Instr.right, .left, .inc, .dec, .out, .in_, .open_, .close].map encode =
      [0b000#3, 0b001#3, 0b010#3, 0b011#3, 0b100#3, 0b101#3, 0b110#3, 0b111#3] ∧
  ∀ nbits w : Nat, 8 ≤ w ∨ nbits < 3 → decodeTableWord nbits w = none

/-- 30_encoding.md R96: a program is the `3*L` bits of its codes, three a position, and conversely a bit
sequence of length `3*L` is the program whose instruction at position `i` has the code of bits `3i ..
3i+2`; decoding what was encoded gives the program back. -/
def Obligations.ProgramsAndBitSequencesAgree : Prop :=
  (∀ p : List Instr,
      decodeBits (i2b (encodeProgram p)) = .ok p ∧
      (i2b (encodeProgram p)).length = 3 * p.length ∧
      ∀ i x, p[i]? = some x →
        (i2b (encodeProgram p))[3 * i]? = some ((encode x).getLsbD 2) ∧
        (i2b (encodeProgram p))[3 * i + 1]? = some ((encode x).getLsbD 1) ∧
        (i2b (encodeProgram p))[3 * i + 2]? = some ((encode x).getLsbD 0)) ∧
  (∀ (s : List Bit) (L : Nat), s.length = 3 * L →
      ∃ p : List Instr,
        decodeBits s = .ok p ∧ p.length = L ∧ i2b (encodeProgram p) = s ∧
        ∀ i x, p[i]? = some x →
          (encode x).toNat = 4 * bitAt s (3 * i) + 2 * bitAt s (3 * i + 1) + bitAt s (3 * i + 2))

/-- 40_packer.md R130 (the spec's inference from R121 and R128): the round trips of the byte codec. -/
def Obligations.ByteCodecRoundTrips : Prop :=
  (∀ y : List Byte, b2y (y2b y) = (y, false)) ∧
  (∀ s : List Bit, s.length % 8 = 0 → y2b (b2y s).1 = s ∧ (b2y s).2 = false) ∧
  (∀ s : List Bit, s.length % 8 ≠ 0 →
      y2b (b2y s).1 = s ++ List.replicate (8 - s.length % 8) false ∧ (b2y s).2 = true)

/-- 70_reset_and_hazards.md R268 (the spec's inference): what reading a byte image of a program back as a
program gives, for every length. -/
def Obligations.ByteImageWithoutLengthHazard : Prop :=
  ∀ c : List Code,
    (c.length % 8 = 0 → b2i (y2b (programImage c).1) = .ok c) ∧
    (c.length % 8 = 7 → b2i (y2b (programImage c).1) = .ok (c ++ [0#3])) ∧
    (c.length % 8 = 6 → b2i (y2b (programImage c).1) = .ok (c ++ [0#3, 0#3])) ∧
    (1 ≤ c.length % 8 → c.length % 8 ≤ 5 →
      ∃ k, b2i (y2b (programImage c).1) = .error k ∧ (k = 1 ∨ k = 2)) ∧
    ((programImage c).2 = true ↔ c.length % 8 ≠ 0)

/-! ## The packer unit -/

/-- 40_packer.md R113 and R123: the step of `PACK` on an input bit, for the group sizes 3 and 8. Where the
packer feeds the program port, a completed code also joins that port (log 12). -/
def Obligations.PackerGroupsBitsMsbFirst : Prop :=
  ∀ (s : State) (b : Bit) (r : List PackItem), s.phase = .busy → s.packQ = .bit b :: r →
    (s.pop = .b2i → s.cnt + 1 = 3 →
      packStep s = .next { s with
        packQ := r, acc := 0, cnt := 0
        packOut := s.packOut ++ [.code (BitVec.ofNat 3 (2 * s.acc + b.toNat))]
        progQ := if s.wired then s.progQ ++ [.code (BitVec.ofNat 3 (2 * s.acc + b.toNat))] else s.progQ }) ∧
    (s.pop = .b2y → s.cnt + 1 = 8 →
      packStep s = .next { s with
        packQ := r, acc := 0, cnt := 0
        packOut := s.packOut ++ [.byte (BitVec.ofNat 8 (2 * s.acc + b.toNat))] }) ∧
    ((s.pop = .b2i ∧ s.cnt + 1 ≠ 3) ∨ (s.pop = .b2y ∧ s.cnt + 1 ≠ 8) →
      packStep s = .next { s with packQ := r, acc := 2 * s.acc + b.toNat, cnt := s.cnt + 1 })

/-- 40_packer.md R114: `B2I` at `end`: success on a group boundary, else `IncompleteGroup` with the number
of leftover bits, nothing emitted, the stream closed with `abort`. Where the packer feeds the program port,
the close joins that port in the same step (log 12). -/
def Obligations.B2IEndReportsIncompleteGroup : Prop :=
  ∀ (s : State) (r : List PackItem), s.phase = .busy → s.packQ = .fin :: r → s.pop = .b2i →
    (s.cnt = 0 →
      packStep s = .next { s with
        packQ := r, packClose := some .fin, phase := .done
        progQ := if s.wired then s.progQ ++ [.closed .fin] else s.progQ }) ∧
    (s.cnt ≠ 0 →
      packStep s = .next { s with
        packQ := r, resid := s.cnt, packClose := some .abort, phase := .failed
        progQ := if s.wired then s.progQ ++ [.closed .abort] else s.progQ })

/-- 40_packer.md R125: `B2Y` at `end`: a short group is emitted padded on the right with zero bits and
reported in `PAD`; the call ends normally in both cases. -/
def Obligations.B2YEndPadsAndReports : Prop :=
  ∀ (s : State) (r : List PackItem), s.phase = .busy → s.packQ = .fin :: r → s.pop = .b2y →
    (0 < s.cnt →
      packStep s = .next { s with
        packQ := r, pad := true, acc := 0, cnt := 0
        packOut := s.packOut ++ [.byte (BitVec.ofNat 8 (s.acc * 2 ^ (8 - s.cnt)))]
        packClose := some .fin, phase := .done }) ∧
    (s.cnt = 0 → packStep s = .next { s with packQ := r, packClose := some .fin, phase := .done })

/-- 40_packer.md R118 and R129: `I2B` and `Y2B` emit the bits of their item, most significant first, and
end normally; `ACC` and `CNT` are not used. -/
def Obligations.ExpandingOperationsEmitMsbFirst : Prop :=
  ∀ (s : State) (r : List PackItem), s.phase = .busy →
    (∀ c : Code, s.pop = .i2b → s.packQ = .code c :: r →
      packStep s = .next { s with
        packQ := r
        packOut := s.packOut ++ [.bit (c.getLsbD 2), .bit (c.getLsbD 1), .bit (c.getLsbD 0)] }) ∧
    (∀ v : Byte, s.pop = .y2b → s.packQ = .byte v :: r →
      packStep s = .next { s with
        packQ := r
        packOut := s.packOut ++
          [.bit (v.getLsbD 7), .bit (v.getLsbD 6), .bit (v.getLsbD 5), .bit (v.getLsbD 4),
           .bit (v.getLsbD 3), .bit (v.getLsbD 2), .bit (v.getLsbD 1), .bit (v.getLsbD 0)] }) ∧
    (s.pop = .i2b ∨ s.pop = .y2b → s.packQ = .fin :: r →
      packStep s = .next { s with packQ := r, packClose := some .fin, phase := .done })

/-- 40_packer.md R111 (the call protocol is the spec's decision D6): what the start of a call sets, and that
a start or a write of `POP` during a call has no effect (the latter log 11). -/
def Obligations.PackerCallStartClearsGroup : Prop :=
  ∀ s : State,
    (s.phase ≠ .busy →
      hostStep .packStart s = { s with
        acc := 0, cnt := 0, pad := false, resid := 0, phase := .busy, packOut := [], packClose := none } ∧
      ∀ op, hostStep (.writePop op) s = { s with pop := op }) ∧
    (s.phase = .busy → hostStep .packStart s = s ∧ ∀ op, hostStep (.writePop op) s = s)

/-- 40_packer.md R131 for `B2I` (the spec's inference by induction; the turns are log 1): the step form over
a whole input stream agrees with the function form, and on a short final group has emitted the complete
groups and closes with `abort`. -/
def Obligations.B2IStreamAgreesWithFunction : Prop :=
  ∀ (s : State) (bits : List Bit) (rest : List PackItem),
    s.phase = .busy → s.pop = .b2i → s.acc = 0 → s.cnt = 0 → s.packOut = [] →
    s.packQ = bits.map .bit ++ .fin :: rest →
    s.turns = List.replicate (bits.length + 1) .pack →
    ∃ t, Sys2Proof.core.run (bits.length + 1) s = .next t ∧ t.packQ = rest ∧
      (∀ c, b2i bits = .ok c →
        t.packOut = c.map .code ∧ t.packClose = some .fin ∧ t.phase = .done ∧ t.resid = s.resid) ∧
      (∀ k, b2i bits = .error k →
        t.packClose = some .abort ∧ t.phase = .failed ∧ t.resid = k ∧
        ∃ c, b2i (bits.take (3 * (bits.length / 3))) = .ok c ∧ t.packOut = c.map .code)

/-- 40_packer.md R131 for `B2Y` (the spec's inference by induction; the turns are log 1). -/
def Obligations.B2YStreamAgreesWithFunction : Prop :=
  ∀ (s : State) (bits : List Bit) (rest : List PackItem),
    s.phase = .busy → s.pop = .b2y → s.acc = 0 → s.cnt = 0 → s.pad = false → s.packOut = [] →
    s.packQ = bits.map .bit ++ .fin :: rest →
    s.turns = List.replicate (bits.length + 1) .pack →
    ∃ t, Sys2Proof.core.run (bits.length + 1) s = .next t ∧ t.packQ = rest ∧
      t.packOut = (b2y bits).1.map .byte ∧ t.pad = (b2y bits).2 ∧
      t.packClose = some .fin ∧ t.phase = .done

/-- 40_packer.md R131 for `I2B` and `Y2B` (the spec's inference by induction; the turns are log 1). -/
def Obligations.ExpandingStreamsAgreeWithFunction : Prop :=
  (∀ (s : State) (c : List Code) (rest : List PackItem),
    s.phase = .busy → s.pop = .i2b → s.packOut = [] → s.packQ = c.map .code ++ .fin :: rest →
    s.turns = List.replicate (c.length + 1) .pack →
    ∃ t, Sys2Proof.core.run (c.length + 1) s = .next t ∧ t.packQ = rest ∧
      t.packOut = (i2b c).map .bit ∧ t.packClose = some .fin ∧ t.phase = .done) ∧
  (∀ (s : State) (y : List Byte) (rest : List PackItem),
    s.phase = .busy → s.pop = .y2b → s.packOut = [] → s.packQ = y.map .byte ++ .fin :: rest →
    s.turns = List.replicate (y.length + 1) .pack →
    ∃ t, Sys2Proof.core.run (y.length + 1) s = .next t ∧ t.packQ = rest ∧
      t.packOut = (y2b y).map .bit ∧ t.packClose = some .fin ∧ t.phase = .done)

/-- 20_memory.md R76, 00_scope.md R10: a step of `PACK` leaves all of the run's state alone; the only thing
it may add to is the program port, and only where the two are connected (log 12). -/
def Obligations.PackerStepFrame : Prop :=
  ∀ s t : State, packStep s = .next t →
    t = { s with
      acc := t.acc, cnt := t.cnt, phase := t.phase, pad := t.pad, resid := t.resid
      packQ := t.packQ, packOut := t.packOut, packClose := t.packClose, progQ := t.progQ } ∧
    s.packOut <+: t.packOut ∧ s.progQ <+: t.progQ ∧ (s.wired = false → t.progQ = s.progQ) ∧
    (t.phase = .failed → s.phase = .failed ∨ (s.pop = .b2i ∧ s.cnt ≠ 0 ∧ t.resid = s.cnt))

/-- 42_execution_cycle.md R162, R163 with 40_packer.md R112, R115 (decision D4; the connection and the turns
are log 12 and log 1): a program loaded through the packer arrives in `IMEM` code by code, and is refused or
scanned as `Supported` says, whatever it is (log 8); a bit sequence of another length than a multiple of three
runs nothing and reports `IncompleteGroup`. -/
def Obligations.LoadThroughPacker : Prop :=
  ∀ (supp : Config.Support) (s : State) (bits : List Bit),
    s.status = .load → s.imem = [] → s.progQ = [] → s.wired = true →
    s.phase = .busy → s.pop = .b2i → s.acc = 0 → s.cnt = 0 → s.packQ = bits.map .bit ++ [.fin] →
    s.turns = List.replicate (bits.length + 1) .pack ++ List.replicate (bits.length / 3 + 1) .run →
    ∃ t, (coreWith supp).run ((bits.length + 1) + (bits.length / 3 + 1)) s = .next t ∧
      t.sink = s.sink ∧ t.inQ = s.inQ ∧ t.progQ = [] ∧
      (∀ c, b2i bits = .ok c →
        t.imem = c ∧
        (supp s.cfg c.length = true → t.status = .prep ∧ t.scan = 0 ∧ t.bstack = []) ∧
        (supp s.cfg c.length = false →
          t.status = .refused ∧ t.fcause = .unsupported ∧ t.fpos = s.fpos)) ∧
      (∀ k, b2i bits = .error k →
        t.status = .faulted ∧ t.fcause = .incompleteGroup ∧ t.fpos = bits.length / 3 ∧ t.resid = k)

/-! ## The jump-table builder -/

/-- 41_jump_table.md R147 (the spec's inference by induction on the scan): the function form, said without
a scan. -/
def Obligations.JumpTableFunctionForm : Prop :=
  ∀ p : List Code,
    (∀ i, buildJumpTable p = .error (.unmatchedClose i) ↔
      i < p.length ∧ opensIn p 0 i < closesIn p 0 i ∧ ∀ j < i, closesIn p 0 j ≤ opensIn p 0 j) ∧
    (∀ i, buildJumpTable p = .error (.unmatchedOpen i) ↔
      (∀ j < p.length, closesIn p 0 j ≤ opensIn p 0 j) ∧
      p.count (encode .close) < p.count (encode .open_) ∧
      p[i]? = some (encode .open_) ∧
      (∀ j, i < j → j < p.length → opensIn p i j ≠ closesIn p i j) ∧
      ∀ k < i, p[k]? = some (encode .open_) →
        ∃ j, k < j ∧ j < p.length ∧ opensIn p k j = closesIn p k j) ∧
    ((∃ jt, buildJumpTable p = .ok jt) ↔
      (∀ j < p.length, closesIn p 0 j ≤ opensIn p 0 j) ∧
      p.count (encode .close) = p.count (encode .open_)) ∧
    (∀ jt, buildJumpTable p = .ok jt →
      ∀ i, p[i]? = some (encode .open_) →
        ∃ j, assocGet? jt i = some j ∧ assocGet? jt j = some i ∧
          i < j ∧ j < p.length ∧ opensIn p i j = closesIn p i j ∧
          ∀ k, i < k → k < j → opensIn p i k ≠ closesIn p i k)

/-- 41_jump_table.md R148 (a) to (e) ((b) is the source's, the others the spec's inference): the domain is
the bracket positions, the table is an involution that pairs each `[` with a later `]`, the pairs nest,
and every value is a position of the program. -/
def Obligations.JumpTableProperties : Prop :=
  ∀ (p : List Code) (jt : JumpTable), buildJumpTable p = .ok jt →
    keysRise jt ∧
    (∀ i, (assocGet? jt i).isSome = true ↔
      p[i]? = some (encode .open_) ∨ p[i]? = some (encode .close)) ∧
    (∀ i j, assocGet? jt i = some j →
      j < p.length ∧ assocGet? jt j = some i ∧
      (p[i]? = some (encode .open_) → p[j]? = some (encode .close) ∧ i < j) ∧
      (p[i]? = some (encode .close) → p[j]? = some (encode .open_) ∧ j < i)) ∧
    (∀ a b a' b', a < b → p[a]? = some (encode .open_) → p[b]? = some (encode .open_) →
      assocGet? jt a = some a' → assocGet? jt b = some b' → a' < b ∨ b' < a')

/-- 41_jump_table.md R143 and R144, and the step of R142: the scan step at `[`, at `]` with a non-empty stack
and at `]` with an empty stack, where the scan stops and no unit of the run steps any more. -/
def Obligations.ScanStepsAtBrackets : Prop :=
  ∀ (s : State), s.status = .prep → s.scan < s.len →
    (s.imem[s.scan]? = some (encode .open_) →
      prepStep s = { s with bstack := s.bstack ++ [s.scan], scan := s.scan + 1 }) ∧
    (∀ st o, s.imem[s.scan]? = some (encode .close) → s.bstack = st ++ [o] →
      ∃ jt, prepStep s = { s with bstack := st, jt := jt, scan := s.scan + 1 } ∧
        assocGet? jt o = some s.scan ∧ assocGet? jt s.scan = some o ∧
        ∀ k, k ≠ o → k ≠ s.scan → assocGet? jt k = assocGet? s.jt k) ∧
    (s.imem[s.scan]? = some (encode .close) → s.bstack = [] →
      (prepStep s).status = .faulted ∧ (prepStep s).fcause = .unmatchedCloseBracket ∧
      (prepStep s).fpos = s.scan ∧ ∀ supp, runStep supp (prepStep s) = .next (prepStep s))

/-- 41_jump_table.md R142, 10_state.md R28 (the spec's inference): after any scan the stack holds the
positions of `[` not yet matched, in increasing order from bottom to top, at most as many as were scanned. -/
def Obligations.StackHoldsUnmatchedOpensInOrder : Prop :=
  ∀ (p : List Code) (st : List Nat) (jt : JumpTable), scanCodes p 0 [] [] = .ok (st, jt) →
    st.Pairwise (· < ·) ∧ st.length ≤ p.length ∧
    ∀ o, o ∈ st ↔ p[o]? = some (encode .open_) ∧ assocGet? jt o = none

/-- 41_jump_table.md R146 (the spec's inference): every other instruction only moves the scan on. -/
def Obligations.ScanPassesOtherInstructions : Prop :=
  ∀ (s : State) (c : Code), s.status = .prep → s.imem[s.scan]? = some c → c.toNat ≤ 5 →
    prepStep s = { s with scan := s.scan + 1 }

/-- 41_jump_table.md R145 and 42_execution_cycle.md R161: the final step: the earliest remaining `[` is the
fault's position; with an empty stack execution starts from a zeroed tape, in that same step (log 20). -/
def Obligations.FinalScanStepStartsOrFaults : Prop :=
  ∀ s : State, s.status = .prep → s.scan = s.len →
    (∀ o st, s.bstack = o :: st →
      (prepStep s).status = .faulted ∧ (prepStep s).fcause = .unmatchedOpenBracket ∧
      (prepStep s).fpos = o) ∧
    (s.bstack = [] →
      ∃ m, prepStep s = { s with
          pc := 0, ptr := 0, tape := m, outcnt := 0, ineof := false, status := .run } ∧
        ∀ i, m.read i = 0)

/-- 41_jump_table.md R140, R152 with R147 (the turns are log 1): preprocessing is exactly `L` scan steps and
one final step, and what it leaves is what the function form gives. -/
def Obligations.ScanAgreesWithFunctionForm : Prop :=
  ∀ s : State, s.status = .prep → s.scan = 0 → s.bstack = [] → s.jt = [] → s.turns = [] →
    ∃ t, Sys2Proof.core.run (s.len + 1) s = .next t ∧ t.sink = s.sink ∧ t.inQ = s.inQ ∧
      (∀ jt, buildJumpTable s.imem = .ok jt →
        t = { s with
          pc := 0, ptr := 0, tape := t.tape, outcnt := 0, ineof := false, status := .run
          jt := jt, scan := s.len, bstack := [] } ∧ ∀ i, t.tape.read i = 0) ∧
      (∀ i, buildJumpTable s.imem = .error (.unmatchedClose i) →
        t.status = .faulted ∧ t.fcause = .unmatchedCloseBracket ∧ t.fpos = i) ∧
      (∀ i, buildJumpTable s.imem = .error (.unmatchedOpen i) →
        t.status = .faulted ∧ t.fcause = .unmatchedOpenBracket ∧ t.fpos = i)

/-! ## Start and load -/

/-- 42_execution_cycle.md R160, 10_state.md R30 (decisions D7, D17): the start command and the configuration
writes are accepted exactly when no run is in progress, and otherwise have no effect. -/
def Obligations.StartAndConfigureOnlyBetweenRuns : Prop :=
  ∀ s : State,
    (s.status = .idle ∨ s.status = .halted ∨ s.status = .faulted ∨ s.status = .refused →
      hostStep .start s = { s with fcause := .none, fpos := 0, imem := [], status := .load } ∧
      (∀ v, hostStep (.writeW v) s = { s with cfg := { s.cfg with w := v } }) ∧
      (∀ v, hostStep (.writeN v) s = { s with cfg := { s.cfg with n := v } }) ∧
      (∀ v, hostStep (.writeWrap v) s = { s with cfg := { s.cfg with wrap := v } }) ∧
      (∀ v, hostStep (.writeEofMode v) s = { s with cfg := { s.cfg with eofmode := v } }) ∧
      (∀ v, hostStep (.writeFill v) s = { s with cfg := { s.cfg with fill := v } })) ∧
    (s.status = .load ∨ s.status = .prep ∨ s.status = .run →
      hostStep .start s = s ∧
      (∀ v, hostStep (.writeW v) s = s) ∧ (∀ v, hostStep (.writeN v) s = s) ∧
      (∀ v, hostStep (.writeWrap v) s = s) ∧ (∀ v, hostStep (.writeEofMode v) s = s) ∧
      (∀ v, hostStep (.writeFill v) s = s))

/-- 42_execution_cycle.md R162: the loader appends each code; at `end` it refuses an unsupported
configuration or length, and nothing else happens, or starts preprocessing. For every `Supported`. -/
def Obligations.LoaderConsumesProgramPort : Prop :=
  ∀ (supp : Config.Support) (s : State), s.status = .load →
    (∀ c r, s.progQ = .code c :: r →
      runStep supp s = .next { s with progQ := r, imem := s.imem ++ [c] }) ∧
    (∀ r, s.progQ = .closed .fin :: r → supp s.cfg s.len = false →
      runStep supp s = .next { s with progQ := r, status := .refused, fcause := .unsupported }) ∧
    (∀ r, s.progQ = .closed .fin :: r → supp s.cfg s.len = true →
      runStep supp s = .next { s with progQ := r, status := .prep, scan := 0, bstack := [], jt := [] })

/-- 42_execution_cycle.md R163 (decision D4; the discarding is log 7): an aborted load faults with
`IncompleteGroup` at the number of complete instructions received, and none of them is left. -/
def Obligations.LoadAbortDiscardsProgram : Prop :=
  ∀ (supp : Config.Support) (s : State) (r : List ProgItem),
    s.status = .load → s.progQ = .closed .abort :: r →
    ∃ t, runStep supp s = .next t ∧ t.status = .faulted ∧ t.fcause = .incompleteGroup ∧
      t.fpos = s.len ∧ t.imem = [] ∧ t.progQ = r ∧ t.sink = s.sink ∧ t.inQ = s.inQ

/-- 41_jump_table.md R149, 70_reset_and_hazards.md R265: while a program is loaded or scanned no output
byte is written, no input item is consumed and nothing of the tape is exposed. -/
def Obligations.NothingHappensOutsideBeforeExecution : Prop :=
  ∀ (supp : Config.Support) (s : State), s.status = .load ∨ s.status = .prep →
    ∃ t, runStep supp s = .next t ∧
      t.sink = s.sink ∧ t.inQ = s.inQ ∧ t.credit = s.credit ∧ t.cfg = s.cfg ∧ t.observeFinal = none ∧
      (s.status = .prep → t.imem = s.imem ∧ t.progQ = s.progQ)

/-! ## The cycle -/

/-- 42_execution_cycle.md R164, R165 (the turns are log 1): a step of the run at a position within the
program is `exec` of the decoded instruction. -/
def Obligations.StepRunsDecodedInstruction : Prop :=
  ∀ (s : State) (c : Code), s.status = .run → s.imem[s.pc]? = some c →
    (s.turns = [] → step s = exec (decode c) s) ∧
    (∀ ts, s.turns = .run :: ts → step s = exec (decode c) { s with turns := ts })

/-- 42_execution_cycle.md R168: at the end of the program the run halts, no other state changes, and the
host may read the tape, `PTR`, `PC` and `OUTCNT`; no instruction halts a run by itself. -/
def Obligations.RunHaltsAtProgramEnd : Prop :=
  ∀ (supp : Config.Support) (s : State), s.status = .run → s.len ≤ s.pc →
    runStep supp s = .next { s with status := .halted } ∧
    ({ s with status := .halted } : State).observeFinal = some (s.tape, s.ptr, s.pc, s.outcnt) ∧
    ∀ i u t, u.status = .run → exec i u = .next t → t.status ≠ .halted

/-! ## The instructions -/

/-- 43_pointer.md R181: `>` faults exactly at the right end of a fixed tape without wraparound; otherwise it
moves the pointer by one, from `N - 1` to 0, and changes nothing else but `PC`. -/
def Obligations.RightMovesOrFaults : Prop :=
  decode 0b000#3 = .right ∧
  ∀ s : State, validIndex s.cfg s.ptr = true →
    (0 < s.cfg.n ∧ s.cfg.wrap = false ∧ s.ptr = (s.cfg.n : Int) - 1 →
      ∃ t, exec .right s = .next t ∧ t.status = .faulted ∧ t.fcause = .pointerOutOfRange) ∧
    (¬(0 < s.cfg.n ∧ s.cfg.wrap = false ∧ s.ptr = (s.cfg.n : Int) - 1) →
      exec .right s = .next { s with
        ptr := if 0 < s.cfg.n ∧ s.ptr = (s.cfg.n : Int) - 1 then 0 else s.ptr + 1
        pc := s.pc + 1 })

/-- 43_pointer.md R182 (on a dynamic tape by decision D11; log 16): `<` faults exactly at index 0 without
wraparound; otherwise it moves the pointer by one, from 0 of a fixed tape to `N - 1`, and changes nothing
else but `PC`. -/
def Obligations.LeftMovesOrFaults : Prop :=
  decode 0b001#3 = .left ∧
  ∀ s : State, validIndex s.cfg s.ptr = true →
    (s.cfg.wrap = false ∧ s.ptr = 0 →
      ∃ t, exec .left s = .next t ∧ t.status = .faulted ∧ t.fcause = .pointerOutOfRange) ∧
    (¬(s.cfg.wrap = false ∧ s.ptr = 0) →
      exec .left s = .next { s with
        ptr := if 0 < s.cfg.n ∧ s.ptr = 0 then (s.cfg.n : Int) - 1 else s.ptr - 1
        pc := s.pc + 1 })

/-- 44_cell_arith.md R190 with R192: `+` adds one to the current cell, reduced modulo `2^W` when `W > 0`;
every other cell and all other state but `PC` is untouched. The tape is in canonical form, an invariant
(`StepKeepsInvariant`). -/
def Obligations.IncAddsOneToCurrentCell : Prop :=
  decode 0b010#3 = .inc ∧
  ∀ s : State, validIndex s.cfg s.ptr = true → s.tape.wf →
    ∃ t, exec .inc s = .next t ∧ t = { s with pc := s.pc + 1, tape := t.tape } ∧
      (0 < s.cfg.w → t.tape.read s.ptr = (s.tape.read s.ptr + 1) % ((2 ^ s.cfg.w : Nat) : Int)) ∧
      (s.cfg.w = 0 → t.tape.read s.ptr = s.tape.read s.ptr + 1) ∧
      ∀ i, i ≠ s.ptr → t.tape.read i = s.tape.read i

/-- 44_cell_arith.md R191 with R192: `-`, as `IncAddsOneToCurrentCell`; the reduced result is never
negative. -/
def Obligations.DecSubtractsOneFromCurrentCell : Prop :=
  decode 0b011#3 = .dec ∧
  ∀ s : State, validIndex s.cfg s.ptr = true → s.tape.wf →
    ∃ t, exec .dec s = .next t ∧ t = { s with pc := s.pc + 1, tape := t.tape } ∧
      (0 < s.cfg.w → t.tape.read s.ptr = (s.tape.read s.ptr - 1) % ((2 ^ s.cfg.w : Nat) : Int) ∧
        0 ≤ t.tape.read s.ptr) ∧
      (s.cfg.w = 0 → t.tape.read s.ptr = s.tape.read s.ptr - 1) ∧
      ∀ i, i ≠ s.ptr → t.tape.read i = s.tape.read i

/-- 44_cell_arith.md R193 (the spec's inference): a `+` followed by a `-`, and a `-` followed by a `+`,
restores the whole tape, for every `W`. -/
def Obligations.IncAndDecUndoEachOther : Prop :=
  ∀ s : State, validIndex s.cfg s.ptr = true → s.tape.wf →
    (0 < s.cfg.w →
      0 ≤ s.tape.read s.ptr ∧ s.tape.read s.ptr < ((2 ^ s.cfg.w : Nat) : Int)) →
    (∃ t, exec .inc s = .next t ∧ exec .dec t = .next { s with pc := s.pc + 2 }) ∧
    (∃ t, exec .dec s = .next t ∧ exec .inc t = .next { s with pc := s.pc + 2 })

/-- 44_cell_arith.md R193 (the spec's inference): `k` consecutive `+` add `k`, reduced modulo `2^W` when
`W > 0`, and `2^W` consecutive `+` restore the tape. -/
def Obligations.RepeatedIncCountsModuloWidth : Prop :=
  ∀ s : State, validIndex s.cfg s.ptr = true → s.tape.wf →
    (0 < s.cfg.w →
      0 ≤ s.tape.read s.ptr ∧ s.tape.read s.ptr < ((2 ^ s.cfg.w : Nat) : Int)) →
    (∀ k : Nat, ∃ t, execTimes .inc k s = .next t ∧
      t = { s with pc := s.pc + k, tape := t.tape } ∧
      (0 < s.cfg.w → t.tape.read s.ptr = (s.tape.read s.ptr + k) % ((2 ^ s.cfg.w : Nat) : Int)) ∧
      (s.cfg.w = 0 → t.tape.read s.ptr = s.tape.read s.ptr + k)) ∧
    (0 < s.cfg.w →
      execTimes .inc (2 ^ s.cfg.w) s = .next { s with pc := s.pc + 2 ^ s.cfg.w })

/-- 45_io.md R201 (a negative cell by decision D14; log 18): `.` hands the sink the cell modulo 256, counts
it, and changes nothing else but `PC`; one acceptance of the host is used up (log 2). -/
def Obligations.OutDeliversCellModulo256 : Prop :=
  decode 0b100#3 = .out ∧
  ∀ s : State, validIndex s.cfg s.ptr = true → 0 < s.credit →
    ∃ b : Byte, (b.toNat : Int) = s.tape.read s.ptr % 256 ∧
      exec .out s = .next { s with
        pc := s.pc + 1, outcnt := s.outcnt + 1, sink := s.sink ++ [b], credit := s.credit - 1 }

/-- 45_io.md R204, R206 (the reduction by decision D12; log 17): a `,` that receives a byte stores it in the
current cell, reduced to the cell width, consumes that one item and changes nothing else but `PC`. -/
def Obligations.InStoresInputByte : Prop :=
  decode 0b101#3 = .in_ ∧
  ∀ (s : State) (b : Byte) (r : List InItem),
    validIndex s.cfg s.ptr = true → s.tape.wf → s.ineof = false → s.inQ = .byte b :: r →
    ∃ t, exec .in_ s = .next t ∧ t = { s with pc := s.pc + 1, inQ := r, tape := t.tape } ∧
      (0 < s.cfg.w → t.tape.read s.ptr = (b.toNat : Int) % ((2 ^ s.cfg.w : Nat) : Int)) ∧
      (s.cfg.w = 0 → t.tape.read s.ptr = (b.toNat : Int)) ∧
      ∀ i, i ≠ s.ptr → t.tape.read i = s.tape.read i

/-- 45_io.md R204, R205, R206 (sticky by decision D16, log 19; the reduction by D12, log 17): a `,` at end of
input, met now or before, sets `INEOF`, applies the policy and asks the host for nothing once `INEOF` is
set. -/
def Obligations.InAppliesEndOfInputPolicy : Prop :=
  ∀ (s : State) (r : List InItem), validIndex s.cfg s.ptr = true → s.tape.wf →
    (s.ineof = true ∧ r = s.inQ) ∨ (s.ineof = false ∧ s.inQ = .eof :: r) →
    (s.cfg.eofmode = .noChange →
      exec .in_ s = .next { s with pc := s.pc + 1, ineof := true, inQ := r }) ∧
    (s.cfg.eofmode = .fill →
      ∃ t, exec .in_ s = .next t ∧
        t = { s with pc := s.pc + 1, ineof := true, inQ := r, tape := t.tape } ∧
        (0 < s.cfg.w → t.tape.read s.ptr = s.cfg.fill % ((2 ^ s.cfg.w : Nat) : Int)) ∧
        (s.cfg.w = 0 → t.tape.read s.ptr = s.cfg.fill) ∧
        ∀ i, i ≠ s.ptr → t.tape.read i = s.tape.read i)

/-- 45_io.md R209 (decision D22; a hold as an unchanged state is log 2): an `.` whose byte is not accepted
and a `,` that is not answered leave the whole state as it is. -/
def Obligations.WaitingInstructionsHold : Prop :=
  ∀ s : State,
    (validIndex s.cfg s.ptr = true → s.credit = 0 → exec .out s = .next s) ∧
    (s.ineof = false → s.inQ = [] → exec .in_ s = .next s)

/-- 46_loop_control.md R216: `[` goes past the matching `]` when the current cell is zero, else into the
loop body, and changes nothing but `PC`. -/
def Obligations.OpenJumpsOnZero : Prop :=
  decode 0b110#3 = .open_ ∧
  ∀ (s : State) (j : Nat), validIndex s.cfg s.ptr = true → assocGet? s.jt s.pc = some j →
    exec .open_ s = .next { s with pc := if s.tape.read s.ptr = 0 then j + 1 else s.pc + 1 }

/-- 46_loop_control.md R217: `]` goes past the matching `[` when the current cell is not zero, else on, and
changes nothing but `PC`. -/
def Obligations.CloseJumpsOnNonZero : Prop :=
  decode 0b111#3 = .close ∧
  ∀ (s : State) (j : Nat), validIndex s.cfg s.ptr = true → assocGet? s.jt s.pc = some j →
    exec .close s = .next { s with pc := if s.tape.read s.ptr ≠ 0 then j + 1 else s.pc + 1 }

/-- 46_loop_control.md R216, R217: the frame of the two brackets, whatever the jump table holds (an absent
entry reads as a free value, log 6), and that they fall through without reading it. -/
def Obligations.BracketsWriteOnlyPc : Prop :=
  ∀ (i : Instr) (s : State), i = .open_ ∨ i = .close → validIndex s.cfg s.ptr = true →
    ∃ t, exec i s = .next t ∧ t = { s with pc := t.pc } ∧
      (i = .open_ → s.tape.read s.ptr ≠ 0 → t.pc = s.pc + 1) ∧
      (i = .close → s.tape.read s.ptr = 0 → t.pc = s.pc + 1)

/-- 42_execution_cycle.md R170: with the pointer in range every instruction answers a next state, and the
only fault one can raise is `PointerOutOfRange`, by `>` or `<`: `STATUS`, `FCAUSE` and `FPOS` record it,
no further instruction is fetched, and the bytes already handed to the sink stay. -/
def Obligations.OnlyPointerMovesFault : Prop :=
  ∀ (i : Instr) (s : State), s.status = .run → validIndex s.cfg s.ptr = true →
    ∃ t, exec i s = .next t ∧
      (t.status = .run ∨
        ((i = .right ∨ i = .left) ∧ t.status = .faulted ∧ t.fcause = .pointerOutOfRange ∧
          t.fpos = s.pc ∧ t.sink = s.sink ∧ ∀ supp, runStep supp t = .next t))

/-- 20_memory.md R61, R74, 41_jump_table.md R151, 10_state.md R37: no instruction writes the program, the
configuration, the ports of the load, the packer or the turns; the jump table and what a fault leaves
unspecified change only by a fault (log 4). -/
def Obligations.InstructionsLeaveProgramAndUnitsAlone : Prop :=
  ∀ (i : Instr) (s t : State), exec i s = .next t →
    t = { s with
      pc := t.pc, ptr := t.ptr, tape := t.tape, outcnt := t.outcnt, ineof := t.ineof
      inQ := t.inQ, sink := t.sink, credit := t.credit
      jt := t.jt, scan := t.scan, bstack := t.bstack
      status := t.status, fcause := t.fcause, fpos := t.fpos, tick := t.tick } ∧
    (s.status = .run → t.status = .run →
      t.jt = s.jt ∧ t.scan = s.scan ∧ t.bstack = s.bstack ∧
      t.fcause = s.fcause ∧ t.fpos = s.fpos ∧ t.tick = s.tick)

/-- 20_memory.md R67, R71, 10_state.md R22, R23: while no fault is raised only `>` and `<` write `PTR`, only
`+`, `-` and `,` write the tape, only `,` takes input and only `.` gives output and counts. -/
def Obligations.EachInstructionWritesOnlyItsOwn : Prop :=
  ∀ (i : Instr) (s t : State), s.status = .run → exec i s = .next t → t.status = .run →
    (i ≠ .right → i ≠ .left → t.ptr = s.ptr) ∧
    (i ≠ .inc → i ≠ .dec → i ≠ .in_ → t.tape = s.tape) ∧
    (i ≠ .in_ → t.inQ = s.inQ ∧ t.ineof = s.ineof) ∧
    (i ≠ .out → t.sink = s.sink ∧ t.outcnt = s.outcnt ∧ t.credit = s.credit) ∧
    (s.tape.wf → ∀ k, k ≠ s.ptr → t.tape.read k = s.tape.read k)

/-! ## The whole machine -/

/-- The invariant of the machine holds after reset. -/
def Obligations.InvariantHoldsAtReset : Prop := State.reset.Inv

/-- 42_execution_cycle.md R169, 43_pointer.md R185, 10_state.md R25, R32, R35, R36 (the spec's inferences, the
turns log 1): every step, of whichever agent, keeps the invariant: `PC` within the program, the pointer
and every cell in range, the tape canonical, the jump table the program's own, the scan's stack and table
those of the scanned part, the status and packer registers at values they can take. -/
def Obligations.StepKeepsInvariant : Prop :=
  ∀ s t : State, s.Inv → step s = .next t → t.Inv

/-- 20_memory.md R69, 60_exceptions.md R230 (the refusal is log 13): in a state that meets the invariant a
step never stops the model, unless the packer's turn finds an item of another type than its port's. -/
def Obligations.SoundStatesNeverStop : Prop :=
  ∀ s : State, s.Inv →
    (∀ x r ts, s.turns = .pack :: ts → s.packQ = x :: r → s.phase = .busy →
      packItemWellFormed s.pop x = true) →
    ∃ t, step s = .next t

/-- 60_exceptions.md R241 (the turns are log 1): `FAULTED`, `REFUSED` and `HALTED` are left only by a new
start command or by reset, both of which clear `FCAUSE` and `FPOS`; every other step keeps the three
registers. -/
def Obligations.EndedRunsAreTerminal : Prop :=
  ∀ s t : State, s.status = .faulted ∨ s.status = .refused ∨ s.status = .halted → step s = .next t →
    (t.status = s.status ∧ t.fcause = s.fcause ∧ t.fpos = s.fpos ∧ t.sink = s.sink) ∨
    (s.turns.head? = some (.host .start) ∧
      t.status = .load ∧ t.fcause = .none ∧ t.fpos = 0 ∧ t.imem = []) ∨
    (s.turns.head? = some (.host .reset) ∧
      t.status = .idle ∧ t.fcause = .none ∧ t.fpos = 0 ∧ t.imem = [])

/-- 70_reset_and_hazards.md R266, 10_state.md R30 (the turns are log 1): short of reset, the configuration
does not change while a run is in progress, nor the program from the end of the load on, nor the jump
table while the run executes and as it halts (after a fault it is unspecified, log 4). -/
def Obligations.ProgramAndConfigurationAreFixedDuringRun : Prop :=
  ∀ s t : State, step s = .next t → s.turns.head? ≠ some (.host .reset) →
    (s.status = .load ∨ s.status = .prep ∨ s.status = .run → t.cfg = s.cfg) ∧
    (s.status = .prep ∨ s.status = .run → t.imem = s.imem) ∧
    (s.status = .run → t.status ≠ .faulted → t.jt = s.jt)

/-- 10_state.md R39, R34, 60_exceptions.md R243 (the turns are log 1): a byte once handed to the sink is
never recalled, by no step of any agent; the sink grows by at most one byte a step, only while a run
executes, and `OUTCNT` counts it. -/
def Obligations.SinkOnlyGrowsAndIsCounted : Prop :=
  ∀ s t : State, step s = .next t →
    t.sink = s.sink ∨
    (s.status = .run ∧ t.outcnt = s.outcnt + 1 ∧ ∃ b, t.sink = s.sink ++ [b])

/-- 70_reset_and_hazards.md R260, 10_state.md R43 (decision D18): every value that reset leaves, from every
state, and the same values in the state the machine starts from. The tape is unspecified (log 5), `IMEM` and
`JT` have no entry (logs 7 and 6); what becomes of the ports, the turns and `tick` is log 15. -/
def Obligations.ResetLeavesTheResetState : Prop :=
  (∀ s : State, ∃ m, hostStep .reset s = {
        pc := 0, ptr := 0, tape := m, outcnt := 0, ineof := false
        imem := [], jt := [], scan := 0, bstack := []
        cfg := { w := 8, n := 30000, wrap := true, eofmode := .noChange, fill := 0 }
        status := .idle, fcause := .none, fpos := 0
        pop := .b2i, acc := 0, cnt := 0, phase := .idle, pad := false, resid := 0
        inQ := [], sink := s.sink, credit := 0, progQ := [], packQ := []
        packOut := s.packOut, packClose := s.packClose, wired := false
        turns := s.turns, tick := s.tick + 1 }) ∧
  (∃ m, State.reset = {
        pc := 0, ptr := 0, tape := m, outcnt := 0, ineof := false
        imem := [], jt := [], scan := 0, bstack := []
        cfg := { w := 8, n := 30000, wrap := true, eofmode := .noChange, fill := 0 }
        status := .idle, fcause := .none, fpos := 0
        pop := .b2i, acc := 0, cnt := 0, phase := .idle, pad := false, resid := 0
        inQ := [], sink := [], credit := 0, progQ := [], packQ := []
        packOut := [], packClose := none, wired := false
        turns := [], tick := State.reset.tick }) ∧
  State.reset.observeAlways =
    (0, 0, 0, (0, false, 0), { w := 8, n := 30000, wrap := true, eofmode := .noChange, fill := 0 })

/-- 70_reset_and_hazards.md R261, its first sentence: the start of execution zeroes the tape and clears `PC`,
`PTR`, `OUTCNT` and `INEOF`, the start of a packer call clears `ACC`, `CNT`, `PAD` and `RESID`, and neither
these nor the start command and the start of preprocessing depend on what was in the registers they set.
That a call's start clears the output list is log 15, that the scan starts with no table entry log 6. -/
def Obligations.StartsDoNotDependOnThePast : Prop :=
  ∀ (s u : State),
    (s.status = .idle ∨ s.status = .halted ∨ s.status = .faulted ∨ s.status = .refused →
      hostStep .start { s with imem := u.imem, fcause := u.fcause, fpos := u.fpos } = hostStep .start s) ∧
    (∀ (supp : Config.Support) (r : List ProgItem), s.status = .load → s.progQ = .closed .fin :: r →
      supp s.cfg s.len = true →
      runStep supp { s with jt := u.jt, scan := u.scan, bstack := u.bstack } = runStep supp s) ∧
    (s.status = .prep → s.scan = s.len → s.bstack = [] →
      prepStep { s with
          pc := u.pc, ptr := u.ptr, tape := u.tape, outcnt := u.outcnt, ineof := u.ineof } =
        prepStep s ∧
      (prepStep s).pc = 0 ∧ (prepStep s).ptr = 0 ∧ (prepStep s).outcnt = 0 ∧
      (prepStep s).ineof = false ∧ ∀ i, (prepStep s).tape.read i = 0) ∧
    (s.phase ≠ .busy →
      hostStep .packStart (s.withCallOf u) = hostStep .packStart s ∧
      (hostStep .packStart s).acc = 0 ∧ (hostStep .packStart s).cnt = 0 ∧
      (hostStep .packStart s).pad = false ∧ (hostStep .packStart s).resid = 0)

/-- 70_reset_and_hazards.md R261, its last sentence, over whole runs and calls (the turns are log 1): a start
command gives states with the same live part whatever an earlier run left, a start of a call gives the same
state; states with the same live part look the same to the host, and every step of every agent keeps them so,
through load and scan up to the start of execution, from where on the live part is the whole state. `tick`,
the model's own (log 4), counts as live, and so do the items that wait at the ports (logs 14, 24, 25). -/
def Obligations.LeftoversNeverReachALaterRunOrCall : Prop :=
  (∀ s u : State,
    (s.status = .idle ∨ s.status = .halted ∨ s.status = .faulted ∨ s.status = .refused →
      (hostStep .start (s.withRunOf u)).live = (hostStep .start s).live) ∧
    (s.phase ≠ .busy → hostStep .packStart (s.withCallOf u) = hostStep .packStart s) ∧
    (s.status = .run → s.live = s)) ∧
  ∀ (supp : Config.Support) (s u : State), s.live = u.live →
    s.observeAlways = u.observeAlways ∧ s.observeFinal = u.observeFinal ∧ s.sink = u.sink ∧
    s.packOut = u.packOut ∧ s.packClose = u.packClose ∧
    (∀ t, stepWith supp s = .next t → ∃ v, stepWith supp u = .next v ∧ t.live = v.live) ∧
    (∀ f, stepWith supp s = .fault f → stepWith supp u = .fault f) ∧
    (∀ f, stepWith supp s = .refused f → stepWith supp u = .refused f)

/-- 00_scope.md R10, 42_execution_cycle.md R172 (determinism by the source): the run does not depend on the
packer's state and does not touch it. -/
def Obligations.RunDoesNotDependOnPacker : Prop :=
  ∀ (supp : Config.Support) (s u : State),
    runStep supp (s.withPackOf u) = resultWithPackOf (runStep supp s) u

/-- 10_state.md R45 (decision D10): the host reads the tape, `PTR`, `PC` and `OUTCNT` in `HALTED` and in no
other status. -/
def Obligations.FinalStateIsReadableOnlyInHalted : Prop :=
  ∀ s : State,
    (s.status = .halted → s.observeFinal = some (s.tape, s.ptr, s.pc, s.outcnt)) ∧
    (s.status ≠ .halted → s.observeFinal = none)
end

