-- ==== Sys2Proof/Laws/Memory.lean ====
section
/-! SUPPORT. The laws of the tape and of the association lists under it: read after write, every other
cell alone, the canonical form kept, and equal contents are equal data. -/

namespace Sys2Proof
namespace Machine

section Assoc

variable {κ ν : Type} [LinearOrder κ]

theorem assocGet?_assocSet (i j : κ) (x : ν) (l : List (κ × ν)) :
    assocGet? (assocSet i x l) j = if i = j then some x else assocGet? l j := by
  induction l with
  | nil => simp [assocSet, assocGet?]
  | cons c r ih =>
    obtain ⟨k, v⟩ := c
    by_cases h1 : i < k
    · simp [assocSet, assocGet?, h1]
    · by_cases h2 : k = i
      · subst h2; by_cases h3 : k = j <;> simp [assocSet, assocGet?, h3]
      · by_cases h3 : k = j
        · subst h3; simp [assocSet, assocGet?, h1, h2, Ne.symm h2]
        · simp [assocSet, assocGet?, h1, h2, h3, ih]

theorem mem_assocSet {i : κ} {x : ν} {l : List (κ × ν)} {c : κ × ν}
    (h : c ∈ assocSet i x l) : c = (i, x) ∨ c ∈ l := by
  induction l with
  | nil => simpa [assocSet] using h
  | cons d r ih =>
    simp only [assocSet] at h
    split at h
    · simpa using h
    · split at h
      · rcases List.mem_cons.1 h with h | h
        · exact .inl h
        · exact .inr (List.mem_cons_of_mem _ h)
      · rcases List.mem_cons.1 h with h | h
        · exact .inr (h ▸ List.mem_cons_self)
        · exact (ih h).imp id (List.mem_cons_of_mem _)

theorem keysRise_cons {k : κ} {v : ν} {l : List (κ × ν)} :
    keysRise ((k, v) :: l) ↔ (∀ c ∈ l, k < c.1) ∧ keysRise l := by
  simp [keysRise, List.pairwise_cons]

theorem keysRise_assocSet {i : κ} {x : ν} {l : List (κ × ν)} (h : keysRise l) :
    keysRise (assocSet i x l) := by
  induction l with
  | nil => simp [assocSet, keysRise]
  | cons d r ih =>
    obtain ⟨k, v⟩ := d
    obtain ⟨hk, hr⟩ := keysRise_cons.1 h
    simp only [assocSet]
    split
    · rename_i hlt
      refine keysRise_cons.2 ⟨fun c hc => ?_, h⟩
      rcases List.mem_cons.1 hc with hc | hc
      · exact hc ▸ hlt
      · exact lt_trans hlt (hk c hc)
    · split
      · rename_i he
        exact keysRise_cons.2 ⟨fun c hc => he ▸ hk c hc, hr⟩
      · rename_i hnlt hne
        refine keysRise_cons.2 ⟨fun c hc => ?_, ih hr⟩
        rcases mem_assocSet hc with hc | hc
        · exact hc ▸ lt_of_le_of_ne (not_lt.1 hnlt) hne
        · exact hk c hc

theorem mem_assocErase {i : κ} {l : List (κ × ν)} {c : κ × ν} (h : c ∈ assocErase i l) : c ∈ l := by
  induction l with
  | nil => simp [assocErase] at h
  | cons d r ih =>
    simp only [assocErase] at h
    split at h
    · exact List.mem_cons_of_mem _ h
    · rcases List.mem_cons.1 h with h | h
      · exact h ▸ List.mem_cons_self
      · exact List.mem_cons_of_mem _ (ih h)

theorem keysRise_assocErase {i : κ} {l : List (κ × ν)} (h : keysRise l) : keysRise (assocErase i l) := by
  induction l with
  | nil => simpa [assocErase] using h
  | cons d r ih =>
    obtain ⟨k, v⟩ := d
    obtain ⟨hk, hr⟩ := keysRise_cons.1 h
    simp only [assocErase]
    split
    · exact hr
    · exact keysRise_cons.2 ⟨fun c hc => hk c (mem_assocErase hc), ih hr⟩

theorem assocGet?_eq_none {i : κ} {l : List (κ × ν)} (h : ∀ c ∈ l, c.1 ≠ i) : assocGet? l i = none := by
  induction l with
  | nil => rfl
  | cons d r ih =>
    have hd : d.1 ≠ i := h d List.mem_cons_self
    simpa [assocGet?, hd] using ih fun c hc => h c (List.mem_cons_of_mem _ hc)

theorem assocGet?_mem {i : κ} {x : ν} {l : List (κ × ν)} (h : assocGet? l i = some x) : (i, x) ∈ l := by
  induction l with
  | nil => simp [assocGet?] at h
  | cons d r ih =>
    simp only [assocGet?] at h
    split at h
    · rename_i he
      obtain rfl : d.2 = x := by simpa using h
      exact he ▸ List.mem_cons_self
    · exact List.mem_cons_of_mem _ (ih h)

theorem assocGet?_assocErase {i j : κ} {l : List (κ × ν)} (h : keysRise l) :
    assocGet? (assocErase i l) j = if i = j then none else assocGet? l j := by
  induction l with
  | nil => simp [assocErase, assocGet?]
  | cons d r ih =>
    obtain ⟨k, v⟩ := d
    obtain ⟨hk, hr⟩ := keysRise_cons.1 h
    by_cases h1 : k = i
    · subst h1
      by_cases h2 : k = j
      · subst h2
        simpa [assocErase] using assocGet?_eq_none fun c hc => ne_of_gt (hk c hc)
      · simp [assocErase, assocGet?, h2]
    · by_cases h2 : k = j
      · subst h2; simp [assocErase, assocGet?, h1, Ne.symm h1]
      · simp [assocErase, assocGet?, h1, h2, ih hr]

/-- Two association lists in canonical form that answer every key alike are the same list. -/
theorem keysRise_ext {l m : List (κ × ν)} (hl : keysRise l) (hm : keysRise m)
    (h : ∀ i, assocGet? l i = assocGet? m i) : l = m := by
  induction l generalizing m with
  | nil =>
    cases m with
    | nil => rfl
    | cons d r => simpa [assocGet?] using h d.1
  | cons c l ih =>
    cases m with
    | nil => simpa [assocGet?] using h c.1
    | cons d m =>
      obtain ⟨k, v⟩ := c
      obtain ⟨k', v'⟩ := d
      obtain ⟨hk, hl'⟩ := keysRise_cons.1 hl
      obtain ⟨hk', hm'⟩ := keysRise_cons.1 hm
      have hkk : k = k' := by
        rcases lt_trichotomy k k' with hlt | he | hgt
        · have := h k
          rw [assocGet?_eq_none (l := (k', v') :: m)] at this
          · simp [assocGet?] at this
          · intro c hc
            rcases List.mem_cons.1 hc with rfl | hc
            · exact ne_of_gt hlt
            · exact ne_of_gt (lt_trans hlt (hk' c hc))
        · exact he
        · have := h k'
          rw [assocGet?_eq_none (l := (k, v) :: l)] at this
          · simp [assocGet?] at this
          · intro c hc
            rcases List.mem_cons.1 hc with rfl | hc
            · exact ne_of_gt hgt
            · exact ne_of_gt (lt_trans hgt (hk c hc))
      subst hkk
      have hv : v = v' := by simpa [assocGet?] using h k
      subst hv
      refine congrArg _ (ih hl' hm' fun i => ?_)
      by_cases hi : k = i
      · subst hi
        rw [assocGet?_eq_none fun c hc => ne_of_gt (hk c hc),
          assocGet?_eq_none fun c hc => ne_of_gt (hk' c hc)]
      · simpa [assocGet?, hi] using h i

end Assoc

@[simp] theorem Memory.write_fresh (m : Memory) (i v : Int) : (m.write i v).fresh = m.fresh := rfl

@[simp] theorem Memory.zeroed_fresh : Memory.zeroed.fresh = .zero := rfl

@[simp] theorem Memory.zeroed_cells : Memory.zeroed.cells = [] := rfl

@[simp] theorem Memory.unknown_cells (k : Nat) : (Memory.unknown k).cells = [] := rfl

@[simp] theorem Memory.read_zeroed (i : Int) : Memory.zeroed.read i = 0 := rfl

/-- The canonical form is kept by a write (and had by the two tapes that list nothing). -/
theorem Memory.wf_write {m : Memory} (h : m.wf) (i v : Int) : (m.write i v).wf := by
  refine ⟨?_, fun c hc => ?_⟩
  · simp only [Memory.write]
    split
    · exact keysRise_assocErase h.1
    · exact keysRise_assocSet h.1
  · simp only [Memory.write] at hc
    split at hc
    · exact h.2 c (mem_assocErase hc)
    · rcases mem_assocSet hc with rfl | hc
      · assumption
      · exact h.2 c hc

theorem Memory.wf_zeroed : Memory.zeroed.wf := by simp [Memory.wf, keysRise]

theorem Memory.wf_unknown (k : Nat) : (Memory.unknown k).wf := by simp [Memory.wf, keysRise]

/-- A read after a write: the value at the index, every other cell as before. -/
theorem Memory.read_write {m : Memory} (h : m.wf) (i v j : Int) :
    (m.write i v).read j = if i = j then v else m.read j := by
  simp only [Memory.read, Memory.write]
  split
  · rename_i hv
    rw [assocGet?_assocErase h.1]
    by_cases hij : i = j
    · subst hij; simp [hv]
    · simp [hij]
  · rw [assocGet?_assocSet]
    by_cases hij : i = j <;> simp [hij]

/-- A write leaves every other cell alone, in every memory. -/
theorem Memory.mem_write {m : Memory} {i v : Int} {c : Int × Int} (h : c ∈ (m.write i v).cells) :
    c = (i, v) ∨ c ∈ m.cells := by
  simp only [Memory.write] at h
  split at h
  · exact .inr (mem_assocErase h)
  · exact mem_assocSet h

/-- Equal contents are equal data. -/
theorem Memory.ext_read {m n : Memory} (hm : m.wf) (hn : n.wf) (hf : m.fresh = n.fresh)
    (h : ∀ i, m.read i = n.read i) : m = n := by
  obtain ⟨f, l⟩ := m
  obtain ⟨g, k⟩ := n
  obtain rfl : f = g := hf
  refine congrArg (Memory.mk f) (keysRise_ext hm.1 hn.1 fun i => ?_)
  have hi := h i
  simp only [Memory.read] at hi
  cases h1 : assocGet? l i with
  | none =>
    cases h2 : assocGet? k i with
    | none => rfl
    | some y => exact absurd (by simpa [h1, h2] using hi.symm) (hn.2 _ (assocGet?_mem h2))
  | some x =>
    cases h2 : assocGet? k i with
    | none => exact absurd (by simpa [h1, h2] using hi) (hm.2 _ (assocGet?_mem h1))
    | some y => simpa [h1, h2] using hi

end Machine
end Sys2Proof
end

