-- ==== Sys2Proof/Laws/State.lean ====
section
/-! SUPPORT. One lemma per field per update of State, so that no proof unfolds a record update. -/

namespace Sys2Proof
namespace Machine

variable (s : State)

/-! `State.setPc` -/

@[simp] theorem State.setPc_pc (v : Nat) : (s.setPc v).pc = v := rfl
@[simp] theorem State.setPc_ptr (v : Nat) : (s.setPc v).ptr = s.ptr := rfl
@[simp] theorem State.setPc_tape (v : Nat) : (s.setPc v).tape = s.tape := rfl
@[simp] theorem State.setPc_outcnt (v : Nat) : (s.setPc v).outcnt = s.outcnt := rfl
@[simp] theorem State.setPc_ineof (v : Nat) : (s.setPc v).ineof = s.ineof := rfl
@[simp] theorem State.setPc_imem (v : Nat) : (s.setPc v).imem = s.imem := rfl
@[simp] theorem State.setPc_jt (v : Nat) : (s.setPc v).jt = s.jt := rfl
@[simp] theorem State.setPc_scan (v : Nat) : (s.setPc v).scan = s.scan := rfl
@[simp] theorem State.setPc_bstack (v : Nat) : (s.setPc v).bstack = s.bstack := rfl
@[simp] theorem State.setPc_cfg (v : Nat) : (s.setPc v).cfg = s.cfg := rfl
@[simp] theorem State.setPc_status (v : Nat) : (s.setPc v).status = s.status := rfl
@[simp] theorem State.setPc_fcause (v : Nat) : (s.setPc v).fcause = s.fcause := rfl
@[simp] theorem State.setPc_fpos (v : Nat) : (s.setPc v).fpos = s.fpos := rfl
@[simp] theorem State.setPc_pop (v : Nat) : (s.setPc v).pop = s.pop := rfl
@[simp] theorem State.setPc_acc (v : Nat) : (s.setPc v).acc = s.acc := rfl
@[simp] theorem State.setPc_cnt (v : Nat) : (s.setPc v).cnt = s.cnt := rfl
@[simp] theorem State.setPc_phase (v : Nat) : (s.setPc v).phase = s.phase := rfl
@[simp] theorem State.setPc_pad (v : Nat) : (s.setPc v).pad = s.pad := rfl
@[simp] theorem State.setPc_resid (v : Nat) : (s.setPc v).resid = s.resid := rfl
@[simp] theorem State.setPc_inQ (v : Nat) : (s.setPc v).inQ = s.inQ := rfl
@[simp] theorem State.setPc_sink (v : Nat) : (s.setPc v).sink = s.sink := rfl
@[simp] theorem State.setPc_credit (v : Nat) : (s.setPc v).credit = s.credit := rfl
@[simp] theorem State.setPc_progQ (v : Nat) : (s.setPc v).progQ = s.progQ := rfl
@[simp] theorem State.setPc_packQ (v : Nat) : (s.setPc v).packQ = s.packQ := rfl
@[simp] theorem State.setPc_packOut (v : Nat) : (s.setPc v).packOut = s.packOut := rfl
@[simp] theorem State.setPc_packClose (v : Nat) : (s.setPc v).packClose = s.packClose := rfl
@[simp] theorem State.setPc_wired (v : Nat) : (s.setPc v).wired = s.wired := rfl
@[simp] theorem State.setPc_turns (v : Nat) : (s.setPc v).turns = s.turns := rfl
@[simp] theorem State.setPc_tick (v : Nat) : (s.setPc v).tick = s.tick := rfl

/-! `State.setPtr` -/

@[simp] theorem State.setPtr_pc (v : Int) : (s.setPtr v).pc = s.pc := rfl
@[simp] theorem State.setPtr_ptr (v : Int) : (s.setPtr v).ptr = v := rfl
@[simp] theorem State.setPtr_tape (v : Int) : (s.setPtr v).tape = s.tape := rfl
@[simp] theorem State.setPtr_outcnt (v : Int) : (s.setPtr v).outcnt = s.outcnt := rfl
@[simp] theorem State.setPtr_ineof (v : Int) : (s.setPtr v).ineof = s.ineof := rfl
@[simp] theorem State.setPtr_imem (v : Int) : (s.setPtr v).imem = s.imem := rfl
@[simp] theorem State.setPtr_jt (v : Int) : (s.setPtr v).jt = s.jt := rfl
@[simp] theorem State.setPtr_scan (v : Int) : (s.setPtr v).scan = s.scan := rfl
@[simp] theorem State.setPtr_bstack (v : Int) : (s.setPtr v).bstack = s.bstack := rfl
@[simp] theorem State.setPtr_cfg (v : Int) : (s.setPtr v).cfg = s.cfg := rfl
@[simp] theorem State.setPtr_status (v : Int) : (s.setPtr v).status = s.status := rfl
@[simp] theorem State.setPtr_fcause (v : Int) : (s.setPtr v).fcause = s.fcause := rfl
@[simp] theorem State.setPtr_fpos (v : Int) : (s.setPtr v).fpos = s.fpos := rfl
@[simp] theorem State.setPtr_pop (v : Int) : (s.setPtr v).pop = s.pop := rfl
@[simp] theorem State.setPtr_acc (v : Int) : (s.setPtr v).acc = s.acc := rfl
@[simp] theorem State.setPtr_cnt (v : Int) : (s.setPtr v).cnt = s.cnt := rfl
@[simp] theorem State.setPtr_phase (v : Int) : (s.setPtr v).phase = s.phase := rfl
@[simp] theorem State.setPtr_pad (v : Int) : (s.setPtr v).pad = s.pad := rfl
@[simp] theorem State.setPtr_resid (v : Int) : (s.setPtr v).resid = s.resid := rfl
@[simp] theorem State.setPtr_inQ (v : Int) : (s.setPtr v).inQ = s.inQ := rfl
@[simp] theorem State.setPtr_sink (v : Int) : (s.setPtr v).sink = s.sink := rfl
@[simp] theorem State.setPtr_credit (v : Int) : (s.setPtr v).credit = s.credit := rfl
@[simp] theorem State.setPtr_progQ (v : Int) : (s.setPtr v).progQ = s.progQ := rfl
@[simp] theorem State.setPtr_packQ (v : Int) : (s.setPtr v).packQ = s.packQ := rfl
@[simp] theorem State.setPtr_packOut (v : Int) : (s.setPtr v).packOut = s.packOut := rfl
@[simp] theorem State.setPtr_packClose (v : Int) : (s.setPtr v).packClose = s.packClose := rfl
@[simp] theorem State.setPtr_wired (v : Int) : (s.setPtr v).wired = s.wired := rfl
@[simp] theorem State.setPtr_turns (v : Int) : (s.setPtr v).turns = s.turns := rfl
@[simp] theorem State.setPtr_tick (v : Int) : (s.setPtr v).tick = s.tick := rfl

/-! `State.setCell` -/

@[simp] theorem State.setCell_pc (v : Int) : (s.setCell v).pc = s.pc := rfl
@[simp] theorem State.setCell_ptr (v : Int) : (s.setCell v).ptr = s.ptr := rfl
@[simp] theorem State.setCell_tape (v : Int) : (s.setCell v).tape = s.tape.write s.ptr v := rfl
@[simp] theorem State.setCell_outcnt (v : Int) : (s.setCell v).outcnt = s.outcnt := rfl
@[simp] theorem State.setCell_ineof (v : Int) : (s.setCell v).ineof = s.ineof := rfl
@[simp] theorem State.setCell_imem (v : Int) : (s.setCell v).imem = s.imem := rfl
@[simp] theorem State.setCell_jt (v : Int) : (s.setCell v).jt = s.jt := rfl
@[simp] theorem State.setCell_scan (v : Int) : (s.setCell v).scan = s.scan := rfl
@[simp] theorem State.setCell_bstack (v : Int) : (s.setCell v).bstack = s.bstack := rfl
@[simp] theorem State.setCell_cfg (v : Int) : (s.setCell v).cfg = s.cfg := rfl
@[simp] theorem State.setCell_status (v : Int) : (s.setCell v).status = s.status := rfl
@[simp] theorem State.setCell_fcause (v : Int) : (s.setCell v).fcause = s.fcause := rfl
@[simp] theorem State.setCell_fpos (v : Int) : (s.setCell v).fpos = s.fpos := rfl
@[simp] theorem State.setCell_pop (v : Int) : (s.setCell v).pop = s.pop := rfl
@[simp] theorem State.setCell_acc (v : Int) : (s.setCell v).acc = s.acc := rfl
@[simp] theorem State.setCell_cnt (v : Int) : (s.setCell v).cnt = s.cnt := rfl
@[simp] theorem State.setCell_phase (v : Int) : (s.setCell v).phase = s.phase := rfl
@[simp] theorem State.setCell_pad (v : Int) : (s.setCell v).pad = s.pad := rfl
@[simp] theorem State.setCell_resid (v : Int) : (s.setCell v).resid = s.resid := rfl
@[simp] theorem State.setCell_inQ (v : Int) : (s.setCell v).inQ = s.inQ := rfl
@[simp] theorem State.setCell_sink (v : Int) : (s.setCell v).sink = s.sink := rfl
@[simp] theorem State.setCell_credit (v : Int) : (s.setCell v).credit = s.credit := rfl
@[simp] theorem State.setCell_progQ (v : Int) : (s.setCell v).progQ = s.progQ := rfl
@[simp] theorem State.setCell_packQ (v : Int) : (s.setCell v).packQ = s.packQ := rfl
@[simp] theorem State.setCell_packOut (v : Int) : (s.setCell v).packOut = s.packOut := rfl
@[simp] theorem State.setCell_packClose (v : Int) : (s.setCell v).packClose = s.packClose := rfl
@[simp] theorem State.setCell_wired (v : Int) : (s.setCell v).wired = s.wired := rfl
@[simp] theorem State.setCell_turns (v : Int) : (s.setCell v).turns = s.turns := rfl
@[simp] theorem State.setCell_tick (v : Int) : (s.setCell v).tick = s.tick := rfl

/-! `State.advance` -/

@[simp] theorem State.advance_pc : s.advance.pc = s.pc + 1 := rfl
@[simp] theorem State.advance_ptr : s.advance.ptr = s.ptr := rfl
@[simp] theorem State.advance_tape : s.advance.tape = s.tape := rfl
@[simp] theorem State.advance_outcnt : s.advance.outcnt = s.outcnt := rfl
@[simp] theorem State.advance_ineof : s.advance.ineof = s.ineof := rfl
@[simp] theorem State.advance_imem : s.advance.imem = s.imem := rfl
@[simp] theorem State.advance_jt : s.advance.jt = s.jt := rfl
@[simp] theorem State.advance_scan : s.advance.scan = s.scan := rfl
@[simp] theorem State.advance_bstack : s.advance.bstack = s.bstack := rfl
@[simp] theorem State.advance_cfg : s.advance.cfg = s.cfg := rfl
@[simp] theorem State.advance_status : s.advance.status = s.status := rfl
@[simp] theorem State.advance_fcause : s.advance.fcause = s.fcause := rfl
@[simp] theorem State.advance_fpos : s.advance.fpos = s.fpos := rfl
@[simp] theorem State.advance_pop : s.advance.pop = s.pop := rfl
@[simp] theorem State.advance_acc : s.advance.acc = s.acc := rfl
@[simp] theorem State.advance_cnt : s.advance.cnt = s.cnt := rfl
@[simp] theorem State.advance_phase : s.advance.phase = s.phase := rfl
@[simp] theorem State.advance_pad : s.advance.pad = s.pad := rfl
@[simp] theorem State.advance_resid : s.advance.resid = s.resid := rfl
@[simp] theorem State.advance_inQ : s.advance.inQ = s.inQ := rfl
@[simp] theorem State.advance_sink : s.advance.sink = s.sink := rfl
@[simp] theorem State.advance_credit : s.advance.credit = s.credit := rfl
@[simp] theorem State.advance_progQ : s.advance.progQ = s.progQ := rfl
@[simp] theorem State.advance_packQ : s.advance.packQ = s.packQ := rfl
@[simp] theorem State.advance_packOut : s.advance.packOut = s.packOut := rfl
@[simp] theorem State.advance_packClose : s.advance.packClose = s.packClose := rfl
@[simp] theorem State.advance_wired : s.advance.wired = s.wired := rfl
@[simp] theorem State.advance_turns : s.advance.turns = s.turns := rfl
@[simp] theorem State.advance_tick : s.advance.tick = s.tick := rfl

/-! `State.latchEof` -/

@[simp] theorem State.latchEof_pc : s.latchEof.pc = s.pc := rfl
@[simp] theorem State.latchEof_ptr : s.latchEof.ptr = s.ptr := rfl
@[simp] theorem State.latchEof_tape : s.latchEof.tape = s.tape := rfl
@[simp] theorem State.latchEof_outcnt : s.latchEof.outcnt = s.outcnt := rfl
@[simp] theorem State.latchEof_ineof : s.latchEof.ineof = true := rfl
@[simp] theorem State.latchEof_imem : s.latchEof.imem = s.imem := rfl
@[simp] theorem State.latchEof_jt : s.latchEof.jt = s.jt := rfl
@[simp] theorem State.latchEof_scan : s.latchEof.scan = s.scan := rfl
@[simp] theorem State.latchEof_bstack : s.latchEof.bstack = s.bstack := rfl
@[simp] theorem State.latchEof_cfg : s.latchEof.cfg = s.cfg := rfl
@[simp] theorem State.latchEof_status : s.latchEof.status = s.status := rfl
@[simp] theorem State.latchEof_fcause : s.latchEof.fcause = s.fcause := rfl
@[simp] theorem State.latchEof_fpos : s.latchEof.fpos = s.fpos := rfl
@[simp] theorem State.latchEof_pop : s.latchEof.pop = s.pop := rfl
@[simp] theorem State.latchEof_acc : s.latchEof.acc = s.acc := rfl
@[simp] theorem State.latchEof_cnt : s.latchEof.cnt = s.cnt := rfl
@[simp] theorem State.latchEof_phase : s.latchEof.phase = s.phase := rfl
@[simp] theorem State.latchEof_pad : s.latchEof.pad = s.pad := rfl
@[simp] theorem State.latchEof_resid : s.latchEof.resid = s.resid := rfl
@[simp] theorem State.latchEof_inQ : s.latchEof.inQ = s.inQ := rfl
@[simp] theorem State.latchEof_sink : s.latchEof.sink = s.sink := rfl
@[simp] theorem State.latchEof_credit : s.latchEof.credit = s.credit := rfl
@[simp] theorem State.latchEof_progQ : s.latchEof.progQ = s.progQ := rfl
@[simp] theorem State.latchEof_packQ : s.latchEof.packQ = s.packQ := rfl
@[simp] theorem State.latchEof_packOut : s.latchEof.packOut = s.packOut := rfl
@[simp] theorem State.latchEof_packClose : s.latchEof.packClose = s.packClose := rfl
@[simp] theorem State.latchEof_wired : s.latchEof.wired = s.wired := rfl
@[simp] theorem State.latchEof_turns : s.latchEof.turns = s.turns := rfl
@[simp] theorem State.latchEof_tick : s.latchEof.tick = s.tick := rfl

/-! `State.deliver` -/

@[simp] theorem State.deliver_pc (b : Byte) : (s.deliver b).pc = s.pc := rfl
@[simp] theorem State.deliver_ptr (b : Byte) : (s.deliver b).ptr = s.ptr := rfl
@[simp] theorem State.deliver_tape (b : Byte) : (s.deliver b).tape = s.tape := rfl
@[simp] theorem State.deliver_outcnt (b : Byte) : (s.deliver b).outcnt = s.outcnt + 1 := rfl
@[simp] theorem State.deliver_ineof (b : Byte) : (s.deliver b).ineof = s.ineof := rfl
@[simp] theorem State.deliver_imem (b : Byte) : (s.deliver b).imem = s.imem := rfl
@[simp] theorem State.deliver_jt (b : Byte) : (s.deliver b).jt = s.jt := rfl
@[simp] theorem State.deliver_scan (b : Byte) : (s.deliver b).scan = s.scan := rfl
@[simp] theorem State.deliver_bstack (b : Byte) : (s.deliver b).bstack = s.bstack := rfl
@[simp] theorem State.deliver_cfg (b : Byte) : (s.deliver b).cfg = s.cfg := rfl
@[simp] theorem State.deliver_status (b : Byte) : (s.deliver b).status = s.status := rfl
@[simp] theorem State.deliver_fcause (b : Byte) : (s.deliver b).fcause = s.fcause := rfl
@[simp] theorem State.deliver_fpos (b : Byte) : (s.deliver b).fpos = s.fpos := rfl
@[simp] theorem State.deliver_pop (b : Byte) : (s.deliver b).pop = s.pop := rfl
@[simp] theorem State.deliver_acc (b : Byte) : (s.deliver b).acc = s.acc := rfl
@[simp] theorem State.deliver_cnt (b : Byte) : (s.deliver b).cnt = s.cnt := rfl
@[simp] theorem State.deliver_phase (b : Byte) : (s.deliver b).phase = s.phase := rfl
@[simp] theorem State.deliver_pad (b : Byte) : (s.deliver b).pad = s.pad := rfl
@[simp] theorem State.deliver_resid (b : Byte) : (s.deliver b).resid = s.resid := rfl
@[simp] theorem State.deliver_inQ (b : Byte) : (s.deliver b).inQ = s.inQ := rfl
@[simp] theorem State.deliver_sink (b : Byte) : (s.deliver b).sink = s.sink ++ [b] := rfl
@[simp] theorem State.deliver_credit (b : Byte) : (s.deliver b).credit = s.credit - 1 := rfl
@[simp] theorem State.deliver_progQ (b : Byte) : (s.deliver b).progQ = s.progQ := rfl
@[simp] theorem State.deliver_packQ (b : Byte) : (s.deliver b).packQ = s.packQ := rfl
@[simp] theorem State.deliver_packOut (b : Byte) : (s.deliver b).packOut = s.packOut := rfl
@[simp] theorem State.deliver_packClose (b : Byte) : (s.deliver b).packClose = s.packClose := rfl
@[simp] theorem State.deliver_wired (b : Byte) : (s.deliver b).wired = s.wired := rfl
@[simp] theorem State.deliver_turns (b : Byte) : (s.deliver b).turns = s.turns := rfl
@[simp] theorem State.deliver_tick (b : Byte) : (s.deliver b).tick = s.tick := rfl

/-! `State.consumeInput` -/

@[simp] theorem State.consumeInput_pc : s.consumeInput.pc = s.pc := rfl
@[simp] theorem State.consumeInput_ptr : s.consumeInput.ptr = s.ptr := rfl
@[simp] theorem State.consumeInput_tape : s.consumeInput.tape = s.tape := rfl
@[simp] theorem State.consumeInput_outcnt : s.consumeInput.outcnt = s.outcnt := rfl
@[simp] theorem State.consumeInput_ineof : s.consumeInput.ineof = s.ineof := rfl
@[simp] theorem State.consumeInput_imem : s.consumeInput.imem = s.imem := rfl
@[simp] theorem State.consumeInput_jt : s.consumeInput.jt = s.jt := rfl
@[simp] theorem State.consumeInput_scan : s.consumeInput.scan = s.scan := rfl
@[simp] theorem State.consumeInput_bstack : s.consumeInput.bstack = s.bstack := rfl
@[simp] theorem State.consumeInput_cfg : s.consumeInput.cfg = s.cfg := rfl
@[simp] theorem State.consumeInput_status : s.consumeInput.status = s.status := rfl
@[simp] theorem State.consumeInput_fcause : s.consumeInput.fcause = s.fcause := rfl
@[simp] theorem State.consumeInput_fpos : s.consumeInput.fpos = s.fpos := rfl
@[simp] theorem State.consumeInput_pop : s.consumeInput.pop = s.pop := rfl
@[simp] theorem State.consumeInput_acc : s.consumeInput.acc = s.acc := rfl
@[simp] theorem State.consumeInput_cnt : s.consumeInput.cnt = s.cnt := rfl
@[simp] theorem State.consumeInput_phase : s.consumeInput.phase = s.phase := rfl
@[simp] theorem State.consumeInput_pad : s.consumeInput.pad = s.pad := rfl
@[simp] theorem State.consumeInput_resid : s.consumeInput.resid = s.resid := rfl
@[simp] theorem State.consumeInput_inQ : s.consumeInput.inQ = s.inQ.tail := rfl
@[simp] theorem State.consumeInput_sink : s.consumeInput.sink = s.sink := rfl
@[simp] theorem State.consumeInput_credit : s.consumeInput.credit = s.credit := rfl
@[simp] theorem State.consumeInput_progQ : s.consumeInput.progQ = s.progQ := rfl
@[simp] theorem State.consumeInput_packQ : s.consumeInput.packQ = s.packQ := rfl
@[simp] theorem State.consumeInput_packOut : s.consumeInput.packOut = s.packOut := rfl
@[simp] theorem State.consumeInput_packClose : s.consumeInput.packClose = s.packClose := rfl
@[simp] theorem State.consumeInput_wired : s.consumeInput.wired = s.wired := rfl
@[simp] theorem State.consumeInput_turns : s.consumeInput.turns = s.turns := rfl
@[simp] theorem State.consumeInput_tick : s.consumeInput.tick = s.tick := rfl

/-! `State.popTurn` -/

@[simp] theorem State.popTurn_pc : s.popTurn.pc = s.pc := rfl
@[simp] theorem State.popTurn_ptr : s.popTurn.ptr = s.ptr := rfl
@[simp] theorem State.popTurn_tape : s.popTurn.tape = s.tape := rfl
@[simp] theorem State.popTurn_outcnt : s.popTurn.outcnt = s.outcnt := rfl
@[simp] theorem State.popTurn_ineof : s.popTurn.ineof = s.ineof := rfl
@[simp] theorem State.popTurn_imem : s.popTurn.imem = s.imem := rfl
@[simp] theorem State.popTurn_jt : s.popTurn.jt = s.jt := rfl
@[simp] theorem State.popTurn_scan : s.popTurn.scan = s.scan := rfl
@[simp] theorem State.popTurn_bstack : s.popTurn.bstack = s.bstack := rfl
@[simp] theorem State.popTurn_cfg : s.popTurn.cfg = s.cfg := rfl
@[simp] theorem State.popTurn_status : s.popTurn.status = s.status := rfl
@[simp] theorem State.popTurn_fcause : s.popTurn.fcause = s.fcause := rfl
@[simp] theorem State.popTurn_fpos : s.popTurn.fpos = s.fpos := rfl
@[simp] theorem State.popTurn_pop : s.popTurn.pop = s.pop := rfl
@[simp] theorem State.popTurn_acc : s.popTurn.acc = s.acc := rfl
@[simp] theorem State.popTurn_cnt : s.popTurn.cnt = s.cnt := rfl
@[simp] theorem State.popTurn_phase : s.popTurn.phase = s.phase := rfl
@[simp] theorem State.popTurn_pad : s.popTurn.pad = s.pad := rfl
@[simp] theorem State.popTurn_resid : s.popTurn.resid = s.resid := rfl
@[simp] theorem State.popTurn_inQ : s.popTurn.inQ = s.inQ := rfl
@[simp] theorem State.popTurn_sink : s.popTurn.sink = s.sink := rfl
@[simp] theorem State.popTurn_credit : s.popTurn.credit = s.credit := rfl
@[simp] theorem State.popTurn_progQ : s.popTurn.progQ = s.progQ := rfl
@[simp] theorem State.popTurn_packQ : s.popTurn.packQ = s.packQ := rfl
@[simp] theorem State.popTurn_packOut : s.popTurn.packOut = s.packOut := rfl
@[simp] theorem State.popTurn_packClose : s.popTurn.packClose = s.packClose := rfl
@[simp] theorem State.popTurn_wired : s.popTurn.wired = s.wired := rfl
@[simp] theorem State.popTurn_turns : s.popTurn.turns = s.turns.tail := rfl
@[simp] theorem State.popTurn_tick : s.popTurn.tick = s.tick := rfl

/-! `State.raise` -/

@[simp] theorem State.raise_pc (f : Cause) (p : Nat) : (s.raise f p).pc = Config.freePc s.tick := rfl
@[simp] theorem State.raise_ptr (f : Cause) (p : Nat) : (s.raise f p).ptr = Config.freePtr s.tick := rfl
@[simp] theorem State.raise_tape (f : Cause) (p : Nat) : (s.raise f p).tape = Memory.unknown s.tick := rfl
@[simp] theorem State.raise_outcnt (f : Cause) (p : Nat) : (s.raise f p).outcnt = Config.freeOutcnt s.tick := rfl
@[simp] theorem State.raise_ineof (f : Cause) (p : Nat) : (s.raise f p).ineof = Config.freeIneof s.tick := rfl
@[simp] theorem State.raise_imem (f : Cause) (p : Nat) : (s.raise f p).imem = s.imem := rfl
@[simp] theorem State.raise_jt (f : Cause) (p : Nat) : (s.raise f p).jt = [] := rfl
@[simp] theorem State.raise_scan (f : Cause) (p : Nat) : (s.raise f p).scan = Config.freeScan s.tick := rfl
@[simp] theorem State.raise_bstack (f : Cause) (p : Nat) : (s.raise f p).bstack = Config.freeBstack s.tick := rfl
@[simp] theorem State.raise_cfg (f : Cause) (p : Nat) : (s.raise f p).cfg = s.cfg := rfl
@[simp] theorem State.raise_status (f : Cause) (p : Nat) : (s.raise f p).status = .faulted := rfl
@[simp] theorem State.raise_fcause (f : Cause) (p : Nat) : (s.raise f p).fcause = f := rfl
@[simp] theorem State.raise_fpos (f : Cause) (p : Nat) : (s.raise f p).fpos = p := rfl
@[simp] theorem State.raise_pop (f : Cause) (p : Nat) : (s.raise f p).pop = s.pop := rfl
@[simp] theorem State.raise_acc (f : Cause) (p : Nat) : (s.raise f p).acc = s.acc := rfl
@[simp] theorem State.raise_cnt (f : Cause) (p : Nat) : (s.raise f p).cnt = s.cnt := rfl
@[simp] theorem State.raise_phase (f : Cause) (p : Nat) : (s.raise f p).phase = s.phase := rfl
@[simp] theorem State.raise_pad (f : Cause) (p : Nat) : (s.raise f p).pad = s.pad := rfl
@[simp] theorem State.raise_resid (f : Cause) (p : Nat) : (s.raise f p).resid = s.resid := rfl
@[simp] theorem State.raise_inQ (f : Cause) (p : Nat) : (s.raise f p).inQ = s.inQ := rfl
@[simp] theorem State.raise_sink (f : Cause) (p : Nat) : (s.raise f p).sink = s.sink := rfl
@[simp] theorem State.raise_credit (f : Cause) (p : Nat) : (s.raise f p).credit = s.credit := rfl
@[simp] theorem State.raise_progQ (f : Cause) (p : Nat) : (s.raise f p).progQ = s.progQ := rfl
@[simp] theorem State.raise_packQ (f : Cause) (p : Nat) : (s.raise f p).packQ = s.packQ := rfl
@[simp] theorem State.raise_packOut (f : Cause) (p : Nat) : (s.raise f p).packOut = s.packOut := rfl
@[simp] theorem State.raise_packClose (f : Cause) (p : Nat) : (s.raise f p).packClose = s.packClose := rfl
@[simp] theorem State.raise_wired (f : Cause) (p : Nat) : (s.raise f p).wired = s.wired := rfl
@[simp] theorem State.raise_turns (f : Cause) (p : Nat) : (s.raise f p).turns = s.turns := rfl
@[simp] theorem State.raise_tick (f : Cause) (p : Nat) : (s.raise f p).tick = s.tick + 1 := rfl

/-! `State.startExec` -/

@[simp] theorem State.startExec_pc : s.startExec.pc = 0 := rfl
@[simp] theorem State.startExec_ptr : s.startExec.ptr = 0 := rfl
@[simp] theorem State.startExec_tape : s.startExec.tape = Memory.zeroed := rfl
@[simp] theorem State.startExec_outcnt : s.startExec.outcnt = 0 := rfl
@[simp] theorem State.startExec_ineof : s.startExec.ineof = false := rfl
@[simp] theorem State.startExec_imem : s.startExec.imem = s.imem := rfl
@[simp] theorem State.startExec_jt : s.startExec.jt = s.jt := rfl
@[simp] theorem State.startExec_scan : s.startExec.scan = s.scan := rfl
@[simp] theorem State.startExec_bstack : s.startExec.bstack = s.bstack := rfl
@[simp] theorem State.startExec_cfg : s.startExec.cfg = s.cfg := rfl
@[simp] theorem State.startExec_status : s.startExec.status = .run := rfl
@[simp] theorem State.startExec_fcause : s.startExec.fcause = s.fcause := rfl
@[simp] theorem State.startExec_fpos : s.startExec.fpos = s.fpos := rfl
@[simp] theorem State.startExec_pop : s.startExec.pop = s.pop := rfl
@[simp] theorem State.startExec_acc : s.startExec.acc = s.acc := rfl
@[simp] theorem State.startExec_cnt : s.startExec.cnt = s.cnt := rfl
@[simp] theorem State.startExec_phase : s.startExec.phase = s.phase := rfl
@[simp] theorem State.startExec_pad : s.startExec.pad = s.pad := rfl
@[simp] theorem State.startExec_resid : s.startExec.resid = s.resid := rfl
@[simp] theorem State.startExec_inQ : s.startExec.inQ = s.inQ := rfl
@[simp] theorem State.startExec_sink : s.startExec.sink = s.sink := rfl
@[simp] theorem State.startExec_credit : s.startExec.credit = s.credit := rfl
@[simp] theorem State.startExec_progQ : s.startExec.progQ = s.progQ := rfl
@[simp] theorem State.startExec_packQ : s.startExec.packQ = s.packQ := rfl
@[simp] theorem State.startExec_packOut : s.startExec.packOut = s.packOut := rfl
@[simp] theorem State.startExec_packClose : s.startExec.packClose = s.packClose := rfl
@[simp] theorem State.startExec_wired : s.startExec.wired = s.wired := rfl
@[simp] theorem State.startExec_turns : s.startExec.turns = s.turns := rfl
@[simp] theorem State.startExec_tick : s.startExec.tick = s.tick := rfl

/-! `State.beginPrep` -/

@[simp] theorem State.beginPrep_pc : s.beginPrep.pc = s.pc := rfl
@[simp] theorem State.beginPrep_ptr : s.beginPrep.ptr = s.ptr := rfl
@[simp] theorem State.beginPrep_tape : s.beginPrep.tape = s.tape := rfl
@[simp] theorem State.beginPrep_outcnt : s.beginPrep.outcnt = s.outcnt := rfl
@[simp] theorem State.beginPrep_ineof : s.beginPrep.ineof = s.ineof := rfl
@[simp] theorem State.beginPrep_imem : s.beginPrep.imem = s.imem := rfl
@[simp] theorem State.beginPrep_jt : s.beginPrep.jt = [] := rfl
@[simp] theorem State.beginPrep_scan : s.beginPrep.scan = 0 := rfl
@[simp] theorem State.beginPrep_bstack : s.beginPrep.bstack = [] := rfl
@[simp] theorem State.beginPrep_cfg : s.beginPrep.cfg = s.cfg := rfl
@[simp] theorem State.beginPrep_status : s.beginPrep.status = .prep := rfl
@[simp] theorem State.beginPrep_fcause : s.beginPrep.fcause = s.fcause := rfl
@[simp] theorem State.beginPrep_fpos : s.beginPrep.fpos = s.fpos := rfl
@[simp] theorem State.beginPrep_pop : s.beginPrep.pop = s.pop := rfl
@[simp] theorem State.beginPrep_acc : s.beginPrep.acc = s.acc := rfl
@[simp] theorem State.beginPrep_cnt : s.beginPrep.cnt = s.cnt := rfl
@[simp] theorem State.beginPrep_phase : s.beginPrep.phase = s.phase := rfl
@[simp] theorem State.beginPrep_pad : s.beginPrep.pad = s.pad := rfl
@[simp] theorem State.beginPrep_resid : s.beginPrep.resid = s.resid := rfl
@[simp] theorem State.beginPrep_inQ : s.beginPrep.inQ = s.inQ := rfl
@[simp] theorem State.beginPrep_sink : s.beginPrep.sink = s.sink := rfl
@[simp] theorem State.beginPrep_credit : s.beginPrep.credit = s.credit := rfl
@[simp] theorem State.beginPrep_progQ : s.beginPrep.progQ = s.progQ := rfl
@[simp] theorem State.beginPrep_packQ : s.beginPrep.packQ = s.packQ := rfl
@[simp] theorem State.beginPrep_packOut : s.beginPrep.packOut = s.packOut := rfl
@[simp] theorem State.beginPrep_packClose : s.beginPrep.packClose = s.packClose := rfl
@[simp] theorem State.beginPrep_wired : s.beginPrep.wired = s.wired := rfl
@[simp] theorem State.beginPrep_turns : s.beginPrep.turns = s.turns := rfl
@[simp] theorem State.beginPrep_tick : s.beginPrep.tick = s.tick := rfl

/-! `State.scanned` -/

@[simp] theorem State.scanned_pc (st : List Nat) (j : JumpTable) : (s.scanned st j).pc = s.pc := rfl
@[simp] theorem State.scanned_ptr (st : List Nat) (j : JumpTable) : (s.scanned st j).ptr = s.ptr := rfl
@[simp] theorem State.scanned_tape (st : List Nat) (j : JumpTable) : (s.scanned st j).tape = s.tape := rfl
@[simp] theorem State.scanned_outcnt (st : List Nat) (j : JumpTable) : (s.scanned st j).outcnt = s.outcnt := rfl
@[simp] theorem State.scanned_ineof (st : List Nat) (j : JumpTable) : (s.scanned st j).ineof = s.ineof := rfl
@[simp] theorem State.scanned_imem (st : List Nat) (j : JumpTable) : (s.scanned st j).imem = s.imem := rfl
@[simp] theorem State.scanned_jt (st : List Nat) (j : JumpTable) : (s.scanned st j).jt = j := rfl
@[simp] theorem State.scanned_scan (st : List Nat) (j : JumpTable) : (s.scanned st j).scan = s.scan + 1 := rfl
@[simp] theorem State.scanned_bstack (st : List Nat) (j : JumpTable) : (s.scanned st j).bstack = st := rfl
@[simp] theorem State.scanned_cfg (st : List Nat) (j : JumpTable) : (s.scanned st j).cfg = s.cfg := rfl
@[simp] theorem State.scanned_status (st : List Nat) (j : JumpTable) : (s.scanned st j).status = s.status := rfl
@[simp] theorem State.scanned_fcause (st : List Nat) (j : JumpTable) : (s.scanned st j).fcause = s.fcause := rfl
@[simp] theorem State.scanned_fpos (st : List Nat) (j : JumpTable) : (s.scanned st j).fpos = s.fpos := rfl
@[simp] theorem State.scanned_pop (st : List Nat) (j : JumpTable) : (s.scanned st j).pop = s.pop := rfl
@[simp] theorem State.scanned_acc (st : List Nat) (j : JumpTable) : (s.scanned st j).acc = s.acc := rfl
@[simp] theorem State.scanned_cnt (st : List Nat) (j : JumpTable) : (s.scanned st j).cnt = s.cnt := rfl
@[simp] theorem State.scanned_phase (st : List Nat) (j : JumpTable) : (s.scanned st j).phase = s.phase := rfl
@[simp] theorem State.scanned_pad (st : List Nat) (j : JumpTable) : (s.scanned st j).pad = s.pad := rfl
@[simp] theorem State.scanned_resid (st : List Nat) (j : JumpTable) : (s.scanned st j).resid = s.resid := rfl
@[simp] theorem State.scanned_inQ (st : List Nat) (j : JumpTable) : (s.scanned st j).inQ = s.inQ := rfl
@[simp] theorem State.scanned_sink (st : List Nat) (j : JumpTable) : (s.scanned st j).sink = s.sink := rfl
@[simp] theorem State.scanned_credit (st : List Nat) (j : JumpTable) : (s.scanned st j).credit = s.credit := rfl
@[simp] theorem State.scanned_progQ (st : List Nat) (j : JumpTable) : (s.scanned st j).progQ = s.progQ := rfl
@[simp] theorem State.scanned_packQ (st : List Nat) (j : JumpTable) : (s.scanned st j).packQ = s.packQ := rfl
@[simp] theorem State.scanned_packOut (st : List Nat) (j : JumpTable) : (s.scanned st j).packOut = s.packOut := rfl
@[simp] theorem State.scanned_packClose (st : List Nat) (j : JumpTable) : (s.scanned st j).packClose = s.packClose := rfl
@[simp] theorem State.scanned_wired (st : List Nat) (j : JumpTable) : (s.scanned st j).wired = s.wired := rfl
@[simp] theorem State.scanned_turns (st : List Nat) (j : JumpTable) : (s.scanned st j).turns = s.turns := rfl
@[simp] theorem State.scanned_tick (st : List Nat) (j : JumpTable) : (s.scanned st j).tick = s.tick := rfl

/-! `State.consumeProgram` -/

@[simp] theorem State.consumeProgram_pc : s.consumeProgram.pc = s.pc := rfl
@[simp] theorem State.consumeProgram_ptr : s.consumeProgram.ptr = s.ptr := rfl
@[simp] theorem State.consumeProgram_tape : s.consumeProgram.tape = s.tape := rfl
@[simp] theorem State.consumeProgram_outcnt : s.consumeProgram.outcnt = s.outcnt := rfl
@[simp] theorem State.consumeProgram_ineof : s.consumeProgram.ineof = s.ineof := rfl
@[simp] theorem State.consumeProgram_imem : s.consumeProgram.imem = s.imem := rfl
@[simp] theorem State.consumeProgram_jt : s.consumeProgram.jt = s.jt := rfl
@[simp] theorem State.consumeProgram_scan : s.consumeProgram.scan = s.scan := rfl
@[simp] theorem State.consumeProgram_bstack : s.consumeProgram.bstack = s.bstack := rfl
@[simp] theorem State.consumeProgram_cfg : s.consumeProgram.cfg = s.cfg := rfl
@[simp] theorem State.consumeProgram_status : s.consumeProgram.status = s.status := rfl
@[simp] theorem State.consumeProgram_fcause : s.consumeProgram.fcause = s.fcause := rfl
@[simp] theorem State.consumeProgram_fpos : s.consumeProgram.fpos = s.fpos := rfl
@[simp] theorem State.consumeProgram_pop : s.consumeProgram.pop = s.pop := rfl
@[simp] theorem State.consumeProgram_acc : s.consumeProgram.acc = s.acc := rfl
@[simp] theorem State.consumeProgram_cnt : s.consumeProgram.cnt = s.cnt := rfl
@[simp] theorem State.consumeProgram_phase : s.consumeProgram.phase = s.phase := rfl
@[simp] theorem State.consumeProgram_pad : s.consumeProgram.pad = s.pad := rfl
@[simp] theorem State.consumeProgram_resid : s.consumeProgram.resid = s.resid := rfl
@[simp] theorem State.consumeProgram_inQ : s.consumeProgram.inQ = s.inQ := rfl
@[simp] theorem State.consumeProgram_sink : s.consumeProgram.sink = s.sink := rfl
@[simp] theorem State.consumeProgram_credit : s.consumeProgram.credit = s.credit := rfl
@[simp] theorem State.consumeProgram_progQ : s.consumeProgram.progQ = s.progQ.tail := rfl
@[simp] theorem State.consumeProgram_packQ : s.consumeProgram.packQ = s.packQ := rfl
@[simp] theorem State.consumeProgram_packOut : s.consumeProgram.packOut = s.packOut := rfl
@[simp] theorem State.consumeProgram_packClose : s.consumeProgram.packClose = s.packClose := rfl
@[simp] theorem State.consumeProgram_wired : s.consumeProgram.wired = s.wired := rfl
@[simp] theorem State.consumeProgram_turns : s.consumeProgram.turns = s.turns := rfl
@[simp] theorem State.consumeProgram_tick : s.consumeProgram.tick = s.tick := rfl

/-! `State.appendCode` -/

@[simp] theorem State.appendCode_pc (c : Code) : (s.appendCode c).pc = s.pc := rfl
@[simp] theorem State.appendCode_ptr (c : Code) : (s.appendCode c).ptr = s.ptr := rfl
@[simp] theorem State.appendCode_tape (c : Code) : (s.appendCode c).tape = s.tape := rfl
@[simp] theorem State.appendCode_outcnt (c : Code) : (s.appendCode c).outcnt = s.outcnt := rfl
@[simp] theorem State.appendCode_ineof (c : Code) : (s.appendCode c).ineof = s.ineof := rfl
@[simp] theorem State.appendCode_imem (c : Code) : (s.appendCode c).imem = s.imem ++ [c] := rfl
@[simp] theorem State.appendCode_jt (c : Code) : (s.appendCode c).jt = s.jt := rfl
@[simp] theorem State.appendCode_scan (c : Code) : (s.appendCode c).scan = s.scan := rfl
@[simp] theorem State.appendCode_bstack (c : Code) : (s.appendCode c).bstack = s.bstack := rfl
@[simp] theorem State.appendCode_cfg (c : Code) : (s.appendCode c).cfg = s.cfg := rfl
@[simp] theorem State.appendCode_status (c : Code) : (s.appendCode c).status = s.status := rfl
@[simp] theorem State.appendCode_fcause (c : Code) : (s.appendCode c).fcause = s.fcause := rfl
@[simp] theorem State.appendCode_fpos (c : Code) : (s.appendCode c).fpos = s.fpos := rfl
@[simp] theorem State.appendCode_pop (c : Code) : (s.appendCode c).pop = s.pop := rfl
@[simp] theorem State.appendCode_acc (c : Code) : (s.appendCode c).acc = s.acc := rfl
@[simp] theorem State.appendCode_cnt (c : Code) : (s.appendCode c).cnt = s.cnt := rfl
@[simp] theorem State.appendCode_phase (c : Code) : (s.appendCode c).phase = s.phase := rfl
@[simp] theorem State.appendCode_pad (c : Code) : (s.appendCode c).pad = s.pad := rfl
@[simp] theorem State.appendCode_resid (c : Code) : (s.appendCode c).resid = s.resid := rfl
@[simp] theorem State.appendCode_inQ (c : Code) : (s.appendCode c).inQ = s.inQ := rfl
@[simp] theorem State.appendCode_sink (c : Code) : (s.appendCode c).sink = s.sink := rfl
@[simp] theorem State.appendCode_credit (c : Code) : (s.appendCode c).credit = s.credit := rfl
@[simp] theorem State.appendCode_progQ (c : Code) : (s.appendCode c).progQ = s.progQ := rfl
@[simp] theorem State.appendCode_packQ (c : Code) : (s.appendCode c).packQ = s.packQ := rfl
@[simp] theorem State.appendCode_packOut (c : Code) : (s.appendCode c).packOut = s.packOut := rfl
@[simp] theorem State.appendCode_packClose (c : Code) : (s.appendCode c).packClose = s.packClose := rfl
@[simp] theorem State.appendCode_wired (c : Code) : (s.appendCode c).wired = s.wired := rfl
@[simp] theorem State.appendCode_turns (c : Code) : (s.appendCode c).turns = s.turns := rfl
@[simp] theorem State.appendCode_tick (c : Code) : (s.appendCode c).tick = s.tick := rfl

/-! `State.refuse` -/

@[simp] theorem State.refuse_pc : s.refuse.pc = s.pc := rfl
@[simp] theorem State.refuse_ptr : s.refuse.ptr = s.ptr := rfl
@[simp] theorem State.refuse_tape : s.refuse.tape = s.tape := rfl
@[simp] theorem State.refuse_outcnt : s.refuse.outcnt = s.outcnt := rfl
@[simp] theorem State.refuse_ineof : s.refuse.ineof = s.ineof := rfl
@[simp] theorem State.refuse_imem : s.refuse.imem = s.imem := rfl
@[simp] theorem State.refuse_jt : s.refuse.jt = s.jt := rfl
@[simp] theorem State.refuse_scan : s.refuse.scan = s.scan := rfl
@[simp] theorem State.refuse_bstack : s.refuse.bstack = s.bstack := rfl
@[simp] theorem State.refuse_cfg : s.refuse.cfg = s.cfg := rfl
@[simp] theorem State.refuse_status : s.refuse.status = .refused := rfl
@[simp] theorem State.refuse_fcause : s.refuse.fcause = .unsupported := rfl
@[simp] theorem State.refuse_fpos : s.refuse.fpos = s.fpos := rfl
@[simp] theorem State.refuse_pop : s.refuse.pop = s.pop := rfl
@[simp] theorem State.refuse_acc : s.refuse.acc = s.acc := rfl
@[simp] theorem State.refuse_cnt : s.refuse.cnt = s.cnt := rfl
@[simp] theorem State.refuse_phase : s.refuse.phase = s.phase := rfl
@[simp] theorem State.refuse_pad : s.refuse.pad = s.pad := rfl
@[simp] theorem State.refuse_resid : s.refuse.resid = s.resid := rfl
@[simp] theorem State.refuse_inQ : s.refuse.inQ = s.inQ := rfl
@[simp] theorem State.refuse_sink : s.refuse.sink = s.sink := rfl
@[simp] theorem State.refuse_credit : s.refuse.credit = s.credit := rfl
@[simp] theorem State.refuse_progQ : s.refuse.progQ = s.progQ := rfl
@[simp] theorem State.refuse_packQ : s.refuse.packQ = s.packQ := rfl
@[simp] theorem State.refuse_packOut : s.refuse.packOut = s.packOut := rfl
@[simp] theorem State.refuse_packClose : s.refuse.packClose = s.packClose := rfl
@[simp] theorem State.refuse_wired : s.refuse.wired = s.wired := rfl
@[simp] theorem State.refuse_turns : s.refuse.turns = s.turns := rfl
@[simp] theorem State.refuse_tick : s.refuse.tick = s.tick := rfl

/-! `State.discardProgram` -/

@[simp] theorem State.discardProgram_pc : s.discardProgram.pc = s.pc := rfl
@[simp] theorem State.discardProgram_ptr : s.discardProgram.ptr = s.ptr := rfl
@[simp] theorem State.discardProgram_tape : s.discardProgram.tape = s.tape := rfl
@[simp] theorem State.discardProgram_outcnt : s.discardProgram.outcnt = s.outcnt := rfl
@[simp] theorem State.discardProgram_ineof : s.discardProgram.ineof = s.ineof := rfl
@[simp] theorem State.discardProgram_imem : s.discardProgram.imem = [] := rfl
@[simp] theorem State.discardProgram_jt : s.discardProgram.jt = s.jt := rfl
@[simp] theorem State.discardProgram_scan : s.discardProgram.scan = s.scan := rfl
@[simp] theorem State.discardProgram_bstack : s.discardProgram.bstack = s.bstack := rfl
@[simp] theorem State.discardProgram_cfg : s.discardProgram.cfg = s.cfg := rfl
@[simp] theorem State.discardProgram_status : s.discardProgram.status = s.status := rfl
@[simp] theorem State.discardProgram_fcause : s.discardProgram.fcause = s.fcause := rfl
@[simp] theorem State.discardProgram_fpos : s.discardProgram.fpos = s.fpos := rfl
@[simp] theorem State.discardProgram_pop : s.discardProgram.pop = s.pop := rfl
@[simp] theorem State.discardProgram_acc : s.discardProgram.acc = s.acc := rfl
@[simp] theorem State.discardProgram_cnt : s.discardProgram.cnt = s.cnt := rfl
@[simp] theorem State.discardProgram_phase : s.discardProgram.phase = s.phase := rfl
@[simp] theorem State.discardProgram_pad : s.discardProgram.pad = s.pad := rfl
@[simp] theorem State.discardProgram_resid : s.discardProgram.resid = s.resid := rfl
@[simp] theorem State.discardProgram_inQ : s.discardProgram.inQ = s.inQ := rfl
@[simp] theorem State.discardProgram_sink : s.discardProgram.sink = s.sink := rfl
@[simp] theorem State.discardProgram_credit : s.discardProgram.credit = s.credit := rfl
@[simp] theorem State.discardProgram_progQ : s.discardProgram.progQ = s.progQ := rfl
@[simp] theorem State.discardProgram_packQ : s.discardProgram.packQ = s.packQ := rfl
@[simp] theorem State.discardProgram_packOut : s.discardProgram.packOut = s.packOut := rfl
@[simp] theorem State.discardProgram_packClose : s.discardProgram.packClose = s.packClose := rfl
@[simp] theorem State.discardProgram_wired : s.discardProgram.wired = s.wired := rfl
@[simp] theorem State.discardProgram_turns : s.discardProgram.turns = s.turns := rfl
@[simp] theorem State.discardProgram_tick : s.discardProgram.tick = s.tick := rfl

/-! `State.setGroup` -/

@[simp] theorem State.setGroup_pc (a n : Nat) : (s.setGroup a n).pc = s.pc := rfl
@[simp] theorem State.setGroup_ptr (a n : Nat) : (s.setGroup a n).ptr = s.ptr := rfl
@[simp] theorem State.setGroup_tape (a n : Nat) : (s.setGroup a n).tape = s.tape := rfl
@[simp] theorem State.setGroup_outcnt (a n : Nat) : (s.setGroup a n).outcnt = s.outcnt := rfl
@[simp] theorem State.setGroup_ineof (a n : Nat) : (s.setGroup a n).ineof = s.ineof := rfl
@[simp] theorem State.setGroup_imem (a n : Nat) : (s.setGroup a n).imem = s.imem := rfl
@[simp] theorem State.setGroup_jt (a n : Nat) : (s.setGroup a n).jt = s.jt := rfl
@[simp] theorem State.setGroup_scan (a n : Nat) : (s.setGroup a n).scan = s.scan := rfl
@[simp] theorem State.setGroup_bstack (a n : Nat) : (s.setGroup a n).bstack = s.bstack := rfl
@[simp] theorem State.setGroup_cfg (a n : Nat) : (s.setGroup a n).cfg = s.cfg := rfl
@[simp] theorem State.setGroup_status (a n : Nat) : (s.setGroup a n).status = s.status := rfl
@[simp] theorem State.setGroup_fcause (a n : Nat) : (s.setGroup a n).fcause = s.fcause := rfl
@[simp] theorem State.setGroup_fpos (a n : Nat) : (s.setGroup a n).fpos = s.fpos := rfl
@[simp] theorem State.setGroup_pop (a n : Nat) : (s.setGroup a n).pop = s.pop := rfl
@[simp] theorem State.setGroup_acc (a n : Nat) : (s.setGroup a n).acc = a := rfl
@[simp] theorem State.setGroup_cnt (a n : Nat) : (s.setGroup a n).cnt = n := rfl
@[simp] theorem State.setGroup_phase (a n : Nat) : (s.setGroup a n).phase = s.phase := rfl
@[simp] theorem State.setGroup_pad (a n : Nat) : (s.setGroup a n).pad = s.pad := rfl
@[simp] theorem State.setGroup_resid (a n : Nat) : (s.setGroup a n).resid = s.resid := rfl
@[simp] theorem State.setGroup_inQ (a n : Nat) : (s.setGroup a n).inQ = s.inQ := rfl
@[simp] theorem State.setGroup_sink (a n : Nat) : (s.setGroup a n).sink = s.sink := rfl
@[simp] theorem State.setGroup_credit (a n : Nat) : (s.setGroup a n).credit = s.credit := rfl
@[simp] theorem State.setGroup_progQ (a n : Nat) : (s.setGroup a n).progQ = s.progQ := rfl
@[simp] theorem State.setGroup_packQ (a n : Nat) : (s.setGroup a n).packQ = s.packQ := rfl
@[simp] theorem State.setGroup_packOut (a n : Nat) : (s.setGroup a n).packOut = s.packOut := rfl
@[simp] theorem State.setGroup_packClose (a n : Nat) : (s.setGroup a n).packClose = s.packClose := rfl
@[simp] theorem State.setGroup_wired (a n : Nat) : (s.setGroup a n).wired = s.wired := rfl
@[simp] theorem State.setGroup_turns (a n : Nat) : (s.setGroup a n).turns = s.turns := rfl
@[simp] theorem State.setGroup_tick (a n : Nat) : (s.setGroup a n).tick = s.tick := rfl

/-! `State.setPhase` -/

@[simp] theorem State.setPhase_pc (v : Phase) : (s.setPhase v).pc = s.pc := rfl
@[simp] theorem State.setPhase_ptr (v : Phase) : (s.setPhase v).ptr = s.ptr := rfl
@[simp] theorem State.setPhase_tape (v : Phase) : (s.setPhase v).tape = s.tape := rfl
@[simp] theorem State.setPhase_outcnt (v : Phase) : (s.setPhase v).outcnt = s.outcnt := rfl
@[simp] theorem State.setPhase_ineof (v : Phase) : (s.setPhase v).ineof = s.ineof := rfl
@[simp] theorem State.setPhase_imem (v : Phase) : (s.setPhase v).imem = s.imem := rfl
@[simp] theorem State.setPhase_jt (v : Phase) : (s.setPhase v).jt = s.jt := rfl
@[simp] theorem State.setPhase_scan (v : Phase) : (s.setPhase v).scan = s.scan := rfl
@[simp] theorem State.setPhase_bstack (v : Phase) : (s.setPhase v).bstack = s.bstack := rfl
@[simp] theorem State.setPhase_cfg (v : Phase) : (s.setPhase v).cfg = s.cfg := rfl
@[simp] theorem State.setPhase_status (v : Phase) : (s.setPhase v).status = s.status := rfl
@[simp] theorem State.setPhase_fcause (v : Phase) : (s.setPhase v).fcause = s.fcause := rfl
@[simp] theorem State.setPhase_fpos (v : Phase) : (s.setPhase v).fpos = s.fpos := rfl
@[simp] theorem State.setPhase_pop (v : Phase) : (s.setPhase v).pop = s.pop := rfl
@[simp] theorem State.setPhase_acc (v : Phase) : (s.setPhase v).acc = s.acc := rfl
@[simp] theorem State.setPhase_cnt (v : Phase) : (s.setPhase v).cnt = s.cnt := rfl
@[simp] theorem State.setPhase_phase (v : Phase) : (s.setPhase v).phase = v := rfl
@[simp] theorem State.setPhase_pad (v : Phase) : (s.setPhase v).pad = s.pad := rfl
@[simp] theorem State.setPhase_resid (v : Phase) : (s.setPhase v).resid = s.resid := rfl
@[simp] theorem State.setPhase_inQ (v : Phase) : (s.setPhase v).inQ = s.inQ := rfl
@[simp] theorem State.setPhase_sink (v : Phase) : (s.setPhase v).sink = s.sink := rfl
@[simp] theorem State.setPhase_credit (v : Phase) : (s.setPhase v).credit = s.credit := rfl
@[simp] theorem State.setPhase_progQ (v : Phase) : (s.setPhase v).progQ = s.progQ := rfl
@[simp] theorem State.setPhase_packQ (v : Phase) : (s.setPhase v).packQ = s.packQ := rfl
@[simp] theorem State.setPhase_packOut (v : Phase) : (s.setPhase v).packOut = s.packOut := rfl
@[simp] theorem State.setPhase_packClose (v : Phase) : (s.setPhase v).packClose = s.packClose := rfl
@[simp] theorem State.setPhase_wired (v : Phase) : (s.setPhase v).wired = s.wired := rfl
@[simp] theorem State.setPhase_turns (v : Phase) : (s.setPhase v).turns = s.turns := rfl
@[simp] theorem State.setPhase_tick (v : Phase) : (s.setPhase v).tick = s.tick := rfl

/-! `State.consumePack` -/

@[simp] theorem State.consumePack_pc : s.consumePack.pc = s.pc := rfl
@[simp] theorem State.consumePack_ptr : s.consumePack.ptr = s.ptr := rfl
@[simp] theorem State.consumePack_tape : s.consumePack.tape = s.tape := rfl
@[simp] theorem State.consumePack_outcnt : s.consumePack.outcnt = s.outcnt := rfl
@[simp] theorem State.consumePack_ineof : s.consumePack.ineof = s.ineof := rfl
@[simp] theorem State.consumePack_imem : s.consumePack.imem = s.imem := rfl
@[simp] theorem State.consumePack_jt : s.consumePack.jt = s.jt := rfl
@[simp] theorem State.consumePack_scan : s.consumePack.scan = s.scan := rfl
@[simp] theorem State.consumePack_bstack : s.consumePack.bstack = s.bstack := rfl
@[simp] theorem State.consumePack_cfg : s.consumePack.cfg = s.cfg := rfl
@[simp] theorem State.consumePack_status : s.consumePack.status = s.status := rfl
@[simp] theorem State.consumePack_fcause : s.consumePack.fcause = s.fcause := rfl
@[simp] theorem State.consumePack_fpos : s.consumePack.fpos = s.fpos := rfl
@[simp] theorem State.consumePack_pop : s.consumePack.pop = s.pop := rfl
@[simp] theorem State.consumePack_acc : s.consumePack.acc = s.acc := rfl
@[simp] theorem State.consumePack_cnt : s.consumePack.cnt = s.cnt := rfl
@[simp] theorem State.consumePack_phase : s.consumePack.phase = s.phase := rfl
@[simp] theorem State.consumePack_pad : s.consumePack.pad = s.pad := rfl
@[simp] theorem State.consumePack_resid : s.consumePack.resid = s.resid := rfl
@[simp] theorem State.consumePack_inQ : s.consumePack.inQ = s.inQ := rfl
@[simp] theorem State.consumePack_sink : s.consumePack.sink = s.sink := rfl
@[simp] theorem State.consumePack_credit : s.consumePack.credit = s.credit := rfl
@[simp] theorem State.consumePack_progQ : s.consumePack.progQ = s.progQ := rfl
@[simp] theorem State.consumePack_packQ : s.consumePack.packQ = s.packQ.tail := rfl
@[simp] theorem State.consumePack_packOut : s.consumePack.packOut = s.packOut := rfl
@[simp] theorem State.consumePack_packClose : s.consumePack.packClose = s.packClose := rfl
@[simp] theorem State.consumePack_wired : s.consumePack.wired = s.wired := rfl
@[simp] theorem State.consumePack_turns : s.consumePack.turns = s.turns := rfl
@[simp] theorem State.consumePack_tick : s.consumePack.tick = s.tick := rfl

/-! `State.emit` -/

@[simp] theorem State.emit_pc (x : PackOut) : (s.emit x).pc = s.pc := rfl
@[simp] theorem State.emit_ptr (x : PackOut) : (s.emit x).ptr = s.ptr := rfl
@[simp] theorem State.emit_tape (x : PackOut) : (s.emit x).tape = s.tape := rfl
@[simp] theorem State.emit_outcnt (x : PackOut) : (s.emit x).outcnt = s.outcnt := rfl
@[simp] theorem State.emit_ineof (x : PackOut) : (s.emit x).ineof = s.ineof := rfl
@[simp] theorem State.emit_imem (x : PackOut) : (s.emit x).imem = s.imem := rfl
@[simp] theorem State.emit_jt (x : PackOut) : (s.emit x).jt = s.jt := rfl
@[simp] theorem State.emit_scan (x : PackOut) : (s.emit x).scan = s.scan := rfl
@[simp] theorem State.emit_bstack (x : PackOut) : (s.emit x).bstack = s.bstack := rfl
@[simp] theorem State.emit_cfg (x : PackOut) : (s.emit x).cfg = s.cfg := rfl
@[simp] theorem State.emit_status (x : PackOut) : (s.emit x).status = s.status := rfl
@[simp] theorem State.emit_fcause (x : PackOut) : (s.emit x).fcause = s.fcause := rfl
@[simp] theorem State.emit_fpos (x : PackOut) : (s.emit x).fpos = s.fpos := rfl
@[simp] theorem State.emit_pop (x : PackOut) : (s.emit x).pop = s.pop := rfl
@[simp] theorem State.emit_acc (x : PackOut) : (s.emit x).acc = s.acc := rfl
@[simp] theorem State.emit_cnt (x : PackOut) : (s.emit x).cnt = s.cnt := rfl
@[simp] theorem State.emit_phase (x : PackOut) : (s.emit x).phase = s.phase := rfl
@[simp] theorem State.emit_pad (x : PackOut) : (s.emit x).pad = s.pad := rfl
@[simp] theorem State.emit_resid (x : PackOut) : (s.emit x).resid = s.resid := rfl
@[simp] theorem State.emit_inQ (x : PackOut) : (s.emit x).inQ = s.inQ := rfl
@[simp] theorem State.emit_sink (x : PackOut) : (s.emit x).sink = s.sink := rfl
@[simp] theorem State.emit_credit (x : PackOut) : (s.emit x).credit = s.credit := rfl
@[simp] theorem State.emit_packQ (x : PackOut) : (s.emit x).packQ = s.packQ := rfl
@[simp] theorem State.emit_packOut (x : PackOut) : (s.emit x).packOut = s.packOut ++ [x] := rfl
@[simp] theorem State.emit_packClose (x : PackOut) : (s.emit x).packClose = s.packClose := rfl
@[simp] theorem State.emit_wired (x : PackOut) : (s.emit x).wired = s.wired := rfl
@[simp] theorem State.emit_turns (x : PackOut) : (s.emit x).turns = s.turns := rfl
@[simp] theorem State.emit_tick (x : PackOut) : (s.emit x).tick = s.tick := rfl

/-! `State.closeOut` -/

@[simp] theorem State.closeOut_pc (h : Close) : (s.closeOut h).pc = s.pc := rfl
@[simp] theorem State.closeOut_ptr (h : Close) : (s.closeOut h).ptr = s.ptr := rfl
@[simp] theorem State.closeOut_tape (h : Close) : (s.closeOut h).tape = s.tape := rfl
@[simp] theorem State.closeOut_outcnt (h : Close) : (s.closeOut h).outcnt = s.outcnt := rfl
@[simp] theorem State.closeOut_ineof (h : Close) : (s.closeOut h).ineof = s.ineof := rfl
@[simp] theorem State.closeOut_imem (h : Close) : (s.closeOut h).imem = s.imem := rfl
@[simp] theorem State.closeOut_jt (h : Close) : (s.closeOut h).jt = s.jt := rfl
@[simp] theorem State.closeOut_scan (h : Close) : (s.closeOut h).scan = s.scan := rfl
@[simp] theorem State.closeOut_bstack (h : Close) : (s.closeOut h).bstack = s.bstack := rfl
@[simp] theorem State.closeOut_cfg (h : Close) : (s.closeOut h).cfg = s.cfg := rfl
@[simp] theorem State.closeOut_status (h : Close) : (s.closeOut h).status = s.status := rfl
@[simp] theorem State.closeOut_fcause (h : Close) : (s.closeOut h).fcause = s.fcause := rfl
@[simp] theorem State.closeOut_fpos (h : Close) : (s.closeOut h).fpos = s.fpos := rfl
@[simp] theorem State.closeOut_pop (h : Close) : (s.closeOut h).pop = s.pop := rfl
@[simp] theorem State.closeOut_acc (h : Close) : (s.closeOut h).acc = s.acc := rfl
@[simp] theorem State.closeOut_cnt (h : Close) : (s.closeOut h).cnt = s.cnt := rfl
@[simp] theorem State.closeOut_phase (h : Close) : (s.closeOut h).phase = s.phase := rfl
@[simp] theorem State.closeOut_pad (h : Close) : (s.closeOut h).pad = s.pad := rfl
@[simp] theorem State.closeOut_resid (h : Close) : (s.closeOut h).resid = s.resid := rfl
@[simp] theorem State.closeOut_inQ (h : Close) : (s.closeOut h).inQ = s.inQ := rfl
@[simp] theorem State.closeOut_sink (h : Close) : (s.closeOut h).sink = s.sink := rfl
@[simp] theorem State.closeOut_credit (h : Close) : (s.closeOut h).credit = s.credit := rfl
@[simp] theorem State.closeOut_packQ (h : Close) : (s.closeOut h).packQ = s.packQ := rfl
@[simp] theorem State.closeOut_packOut (h : Close) : (s.closeOut h).packOut = s.packOut := rfl
@[simp] theorem State.closeOut_packClose (h : Close) : (s.closeOut h).packClose = some h := rfl
@[simp] theorem State.closeOut_wired (h : Close) : (s.closeOut h).wired = s.wired := rfl
@[simp] theorem State.closeOut_turns (h : Close) : (s.closeOut h).turns = s.turns := rfl
@[simp] theorem State.closeOut_tick (h : Close) : (s.closeOut h).tick = s.tick := rfl

/-! `State.halt` -/

@[simp] theorem State.halt_pc : s.halt.pc = s.pc := rfl
@[simp] theorem State.halt_ptr : s.halt.ptr = s.ptr := rfl
@[simp] theorem State.halt_tape : s.halt.tape = s.tape := rfl
@[simp] theorem State.halt_outcnt : s.halt.outcnt = s.outcnt := rfl
@[simp] theorem State.halt_ineof : s.halt.ineof = s.ineof := rfl
@[simp] theorem State.halt_imem : s.halt.imem = s.imem := rfl
@[simp] theorem State.halt_jt : s.halt.jt = s.jt := rfl
@[simp] theorem State.halt_scan : s.halt.scan = s.scan := rfl
@[simp] theorem State.halt_bstack : s.halt.bstack = s.bstack := rfl
@[simp] theorem State.halt_cfg : s.halt.cfg = s.cfg := rfl
@[simp] theorem State.halt_status : s.halt.status = .halted := rfl
@[simp] theorem State.halt_fcause : s.halt.fcause = s.fcause := rfl
@[simp] theorem State.halt_fpos : s.halt.fpos = s.fpos := rfl
@[simp] theorem State.halt_pop : s.halt.pop = s.pop := rfl
@[simp] theorem State.halt_acc : s.halt.acc = s.acc := rfl
@[simp] theorem State.halt_cnt : s.halt.cnt = s.cnt := rfl
@[simp] theorem State.halt_phase : s.halt.phase = s.phase := rfl
@[simp] theorem State.halt_pad : s.halt.pad = s.pad := rfl
@[simp] theorem State.halt_resid : s.halt.resid = s.resid := rfl
@[simp] theorem State.halt_inQ : s.halt.inQ = s.inQ := rfl
@[simp] theorem State.halt_sink : s.halt.sink = s.sink := rfl
@[simp] theorem State.halt_credit : s.halt.credit = s.credit := rfl
@[simp] theorem State.halt_progQ : s.halt.progQ = s.progQ := rfl
@[simp] theorem State.halt_packQ : s.halt.packQ = s.packQ := rfl
@[simp] theorem State.halt_packOut : s.halt.packOut = s.packOut := rfl
@[simp] theorem State.halt_packClose : s.halt.packClose = s.packClose := rfl
@[simp] theorem State.halt_wired : s.halt.wired = s.wired := rfl
@[simp] theorem State.halt_turns : s.halt.turns = s.turns := rfl
@[simp] theorem State.halt_tick : s.halt.tick = s.tick := rfl

end Machine
end Sys2Proof
end

