-- ==== Sys2Proof/Laws/Ops.lean ====
section
/-! SUPPORT. One lemma for each shared operation that says everything it can do; proofs cite these and do
not unfold the operations. -/

namespace Sys2Proof
namespace Machine

/-! ## Operands -/

theorem norm_of_pos {w : Nat} (h : 0 < w) (v : Int) : norm w v = v % ((2 ^ w : Nat) : Int) := by
  simp [norm, h]

@[simp] theorem norm_zero (v : Int) : norm 0 v = v := rfl

/-- What `Norm` gives has the cell width (10_state.md R25). -/
theorem norm_range {w : Nat} (h : 0 < w) (v : Int) :
    0 ≤ norm w v ∧ norm w v < ((2 ^ w : Nat) : Int) := by
  rw [norm_of_pos h]
  have hp : (0 : Int) < ((2 ^ w : Nat) : Int) := by positivity
  exact ⟨Int.emod_nonneg _ hp.ne', Int.emod_lt_of_pos _ hp⟩

theorem norm_of_range {w : Nat} {v : Int} (h : 0 < w → 0 ≤ v ∧ v < ((2 ^ w : Nat) : Int)) :
    norm w v = v := by
  by_cases hw : 0 < w
  · rw [norm_of_pos hw, Int.emod_eq_of_lt (h hw).1 (h hw).2]
  · simp [norm, hw]

/-- Reducing before an addition does not change the reduced sum. -/
theorem norm_norm_add (w : Nat) (v d : Int) : norm w (norm w v + d) = norm w (v + d) := by
  by_cases hw : 0 < w
  · simp only [norm_of_pos hw, Int.emod_add_emod]
  · simp [norm, hw]

theorem outByte_toNat (v : Int) : ((outByte v).toNat : Int) = v % 256 := by
  have h1 := Int.emod_nonneg v (show (256 : Int) ≠ 0 by decide)
  have h2 := Int.emod_lt_of_pos v (show (0 : Int) < 256 by decide)
  simp only [outByte, BitVec.toNat_ofNat]
  omega

theorem withCell_of_valid {s : State} (h : validIndex s.cfg s.ptr = true) (k : Int → Result) :
    withCell s k = k (s.tape.read s.ptr) := by
  simp [withCell, h]

/-- An access to the current cell goes on only where the tape has it. -/
theorem withCell_eq_next {s t : State} {k : Int → Result} (h : withCell s k = .next t) :
    validIndex s.cfg s.ptr = true ∧ k (s.tape.read s.ptr) = .next t := by
  unfold withCell at h
  split at h
  · exact ⟨‹_›, h⟩
  · cases h

/-- Where a move can land is an index of the tape (43_pointer.md R185). -/
theorem moveTarget_valid {c : Cfg} {p d q : Int} (h : moveTarget c p d = some q) :
    validIndex c q = true := by
  unfold moveTarget at h
  unfold validIndex
  split at h
  · rename_i hn
    rw [if_pos hn]
    split at h
    · obtain rfl := Option.some.inj h
      exact decide_eq_true ⟨Int.emod_nonneg _ (by omega), Int.emod_lt_of_pos _ (by omega)⟩
    · split at h
      · obtain rfl := Option.some.inj h
        exact decide_eq_true ‹_›
      · cases h
  · rename_i hn
    rw [if_neg hn]
    split at h
    · simp [*]
    · split at h
      · obtain rfl := Option.some.inj h
        simp [*]
      · cases h

/-- Everything `MovePointer` can do. -/
theorem movePointer_cases (d : Int) (s : State) :
    (∃ q, moveTarget s.cfg s.ptr d = some q ∧ movePointer d s = .next (s.setPtr q).advance) ∨
    (moveTarget s.cfg s.ptr d = none ∧ movePointer d s = .next (s.raise .pointerOutOfRange s.pc)) := by
  unfold movePointer
  split
  · exact .inl ⟨_, ‹_›, rfl⟩
  · exact .inr ⟨‹_›, rfl⟩

theorem addToCell_of_valid {s : State} (h : validIndex s.cfg s.ptr = true) (d : Int) :
    addToCell d s = .next (s.setCell (norm s.cfg.w (s.tape.read s.ptr + d))).advance :=
  withCell_of_valid h _

/-- Everything the acquisition of an input item can do (45_io.md R204, R205, R209). -/
theorem takeInput_cases (s : State) :
    (s.ineof = true ∧ takeInput s = some (.eof, s)) ∨
    (s.ineof = false ∧ s.inQ = [] ∧ takeInput s = none) ∨
    (∃ x r, s.ineof = false ∧ s.inQ = x :: r ∧ takeInput s = some (x, s.consumeInput)) := by
  unfold takeInput
  split
  · exact .inl ⟨‹_›, rfl⟩
  · rename_i h
    cases hq : s.inQ with
    | nil => exact .inr (.inl ⟨by simpa using h, rfl, rfl⟩)
    | cons x r => exact .inr (.inr ⟨x, r, by simpa using h, rfl, rfl⟩)

/-! ## The instructions -/

/-- What `>` and `<`, `+` and `-`, `.`, `,` and the brackets can do, one case per way an instruction ends
in a next state. -/
theorem exec_cases {i : Instr} {s t : State} (h : exec i s = .next t) :
    ((i = .right ∨ i = .left) ∧ ∃ q, validIndex s.cfg q = true ∧ t = (s.setPtr q).advance) ∨
    ((i = .right ∨ i = .left) ∧ t = s.raise .pointerOutOfRange s.pc) ∨
    ((i = .inc ∨ i = .dec) ∧ validIndex s.cfg s.ptr = true ∧
      ∃ v, t = (s.setCell (norm s.cfg.w v)).advance) ∨
    (i = .out ∧ t = s) ∨
    (i = .out ∧ 0 < s.credit ∧ t = (s.deliver (outByte (s.tape.read s.ptr))).advance) ∨
    (i = .in_ ∧ t = s) ∨
    (i = .in_ ∧ (t = s.latchEof.advance ∨ t = s.consumeInput.latchEof.advance)) ∨
    (i = .in_ ∧ validIndex s.cfg s.ptr = true ∧ ∃ v u,
      (u = s.latchEof ∨ u = s.consumeInput.latchEof ∨ u = s.consumeInput) ∧
      t = (u.setCell (norm s.cfg.w v)).advance) ∨
    ((i = .open_ ∨ i = .close) ∧ (t = s.advance ∨ t = (s.setPc (s.jump s.pc)).advance)) := by
  have move : ∀ d, movePointer d s = .next t →
      (∃ q, validIndex s.cfg q = true ∧ t = (s.setPtr q).advance) ∨
      t = s.raise .pointerOutOfRange s.pc := by
    intro d h
    rcases movePointer_cases d s with ⟨q, hq, he⟩ | ⟨_, he⟩ <;> rw [he] at h <;> cases h
    · exact .inl ⟨q, moveTarget_valid hq, rfl⟩
    · exact .inr rfl
  have store : ∀ (u : State) (v : Int), storeInput u v = .next t →
      validIndex u.cfg u.ptr = true ∧ t = (u.setCell (norm u.cfg.w v)).advance := by
    intro u v h
    obtain ⟨hv, h⟩ := withCell_eq_next h
    cases h
    exact ⟨hv, rfl⟩
  cases i with
  | right => exact (move 1 h).elim (fun h => .inl ⟨.inl rfl, h⟩) fun h => .inr (.inl ⟨.inl rfl, h⟩)
  | left => exact (move (-1) h).elim (fun h => .inl ⟨.inr rfl, h⟩) fun h => .inr (.inl ⟨.inr rfl, h⟩)
  | inc =>
    simp only [exec, execInc, addToCell] at h
    obtain ⟨hv, h⟩ := withCell_eq_next h
    cases h
    exact .inr (.inr (.inl ⟨.inl rfl, hv, _, rfl⟩))
  | dec =>
    simp only [exec, execDec, addToCell] at h
    obtain ⟨hv, h⟩ := withCell_eq_next h
    cases h
    exact .inr (.inr (.inl ⟨.inr rfl, hv, _, rfl⟩))
  | out =>
    simp only [exec, execOut] at h
    obtain ⟨_, h⟩ := withCell_eq_next h
    split at h <;> cases h
    · exact .inr (.inr (.inr (.inl ⟨rfl, rfl⟩)))
    · exact .inr (.inr (.inr (.inr (.inl ⟨rfl, Nat.pos_of_ne_zero ‹_›, rfl⟩))))
  | in_ =>
    refine .inr (.inr (.inr (.inr (.inr ?_))))
    simp only [exec, execIn] at h
    rcases takeInput_cases s with ⟨_, e⟩ | ⟨_, _, e⟩ | ⟨x, r, _, _, e⟩ <;> rw [e] at h
    · dsimp only at h
      split at h
      · obtain ⟨hv, rfl⟩ := store _ _ h
        exact .inr (.inr (.inl ⟨rfl, hv, _, _, .inl rfl, rfl⟩))
      · cases h
        exact .inr (.inl ⟨rfl, .inl rfl⟩)
    · cases h
      exact .inl ⟨rfl, rfl⟩
    · cases x with
      | byte b =>
        obtain ⟨hv, rfl⟩ := store _ _ h
        exact .inr (.inr (.inl ⟨rfl, hv, _, _, .inr (.inr rfl), rfl⟩))
      | eof =>
        dsimp only at h
        split at h
        · obtain ⟨hv, rfl⟩ := store _ _ h
          exact .inr (.inr (.inl ⟨rfl, hv, _, _, .inr (.inl rfl), rfl⟩))
        · cases h
          exact .inr (.inl ⟨rfl, .inr rfl⟩)
  | open_ =>
    simp only [exec, execOpen] at h
    obtain ⟨_, h⟩ := withCell_eq_next h
    cases h
    unfold branch
    split
    · exact .inr (.inr (.inr (.inr (.inr (.inr (.inr (.inr ⟨.inl rfl, .inr rfl⟩)))))))
    · exact .inr (.inr (.inr (.inr (.inr (.inr (.inr (.inr ⟨.inl rfl, .inl rfl⟩)))))))
  | close =>
    simp only [exec, execClose] at h
    obtain ⟨_, h⟩ := withCell_eq_next h
    cases h
    unfold branch
    split
    · exact .inr (.inr (.inr (.inr (.inr (.inr (.inr (.inr ⟨.inr rfl, .inr rfl⟩)))))))
    · exact .inr (.inr (.inr (.inr (.inr (.inr (.inr (.inr ⟨.inr rfl, .inl rfl⟩)))))))

/-! ## The jump-table builder -/

/-- Everything one scan step can do, at the three kinds of instruction. -/
theorem scanOne_open (pos : Nat) (st : List Nat) (jt : JumpTable) :
    scanOne (encode .open_) pos st jt = some (st ++ [pos], jt) := rfl

theorem scanOne_close_nil (pos : Nat) (jt : JumpTable) : scanOne (encode .close) pos [] jt = none := rfl

theorem scanOne_close_snoc (pos o : Nat) (st : List Nat) (jt : JumpTable) :
    scanOne (encode .close) pos (st ++ [o]) jt = some (st, assocSet pos o (assocSet o pos jt)) := by
  have h : decode (encode .close) = .close := rfl
  simp [scanOne, h]

theorem scanOne_other {c : Code} (h1 : c ≠ encode .open_) (h2 : c ≠ encode .close) (pos : Nat)
    (st : List Nat) (jt : JumpTable) : scanOne c pos st jt = some (st, jt) := by
  have h : ∀ c : Code, c ≠ encode .open_ → c ≠ encode .close →
      decode c ≠ .open_ ∧ decode c ≠ .close := by decide
  obtain ⟨h3, h4⟩ := h c h1 h2
  unfold scanOne
  split <;> first | rfl | exact absurd ‹_› h3 | exact absurd ‹_› h4

/-- A scan of two pieces is the scan of the second from where the first ended. -/
theorem scanCodes_append (p q : List Code) (pos : Nat) (st : List Nat) (jt : JumpTable) :
    scanCodes (p ++ q) pos st jt =
      match scanCodes p pos st jt with
      | .error i => .error i
      | .ok (st', jt') => scanCodes q (pos + p.length) st' jt' := by
  induction p generalizing pos st jt with
  | nil => rfl
  | cons c p ih =>
    simp only [List.cons_append, scanCodes]
    cases scanOne c pos st jt with
    | none => rfl
    | some x => simp [ih, Nat.add_assoc, Nat.add_comm 1]

/-- Everything one transition of `JTB` can do. -/
theorem prepStep_cases (s : State) :
    (∃ c st jt, s.imem[s.scan]? = some c ∧ scanOne c s.scan s.bstack s.jt = some (st, jt) ∧
      prepStep s = s.scanned st jt) ∨
    (∃ c, s.imem[s.scan]? = some c ∧ scanOne c s.scan s.bstack s.jt = none ∧
      prepStep s = s.raise .unmatchedCloseBracket s.scan) ∨
    (s.imem[s.scan]? = none ∧ s.bstack = [] ∧ prepStep s = s.startExec) ∨
    (∃ o st, s.imem[s.scan]? = none ∧ s.bstack = o :: st ∧
      prepStep s = s.raise .unmatchedOpenBracket o) := by
  unfold prepStep
  split
  · rename_i c hc
    split
    · exact .inl ⟨c, _, _, hc, ‹_›, rfl⟩
    · exact .inr (.inl ⟨c, hc, ‹_›, rfl⟩)
  · rename_i hc
    split
    · exact .inr (.inr (.inl ⟨hc, ‹_›, rfl⟩))
    · exact .inr (.inr (.inr ⟨_, _, hc, ‹_›, rfl⟩))

/-! ## The loader, the packer and the host -/

/-- Everything one transition of the loader can do. -/
theorem loadStep_cases (supp : Config.Support) (s : State) :
    (s.progQ = [] ∧ loadStep supp s = s) ∨
    (∃ c r, s.progQ = .code c :: r ∧ loadStep supp s = s.consumeProgram.appendCode c) ∨
    (∃ r, s.progQ = .closed .fin :: r ∧ supp s.cfg s.len = true ∧
      loadStep supp s = s.consumeProgram.beginPrep) ∨
    (∃ r, s.progQ = .closed .fin :: r ∧ supp s.cfg s.len = false ∧
      loadStep supp s = s.consumeProgram.refuse) ∨
    (∃ r, s.progQ = .closed .abort :: r ∧
      loadStep supp s = s.consumeProgram.discardProgram.raise .incompleteGroup s.len) := by
  unfold loadStep
  split
  · exact .inl ⟨‹_›, rfl⟩
  · exact .inr (.inl ⟨_, _, ‹_›, rfl⟩)
  · rename_i r h
    cases hs : supp s.cfg s.len with
    | true => exact .inr (.inr (.inl ⟨r, h, rfl, by simp⟩))
    | false => exact .inr (.inr (.inr (.inl ⟨r, h, rfl, by simp⟩)))
  · exact .inr (.inr (.inr (.inr ⟨_, ‹_›, rfl⟩)))

/-- Everything one transition of `PACK` can do: it waits, or consumes the item before it in a call. -/
theorem packStep_cases (s : State) :
    (packStep s = .next s ∧ (s.phase ≠ .busy ∨ s.packQ = [])) ∨
    (∃ x r, s.phase = .busy ∧ s.packQ = x :: r ∧ packStep s = packItem s.consumePack x) := by
  unfold packStep
  split
  · exact .inr ⟨_, _, ‹_›, ‹_›, rfl⟩
  · exact .inl ⟨rfl, .inr ‹_›⟩
  all_goals exact .inl ⟨rfl, .inl (by simp [*])⟩

/-- Emitting bits only adds to the output stream: the program port takes codes. -/
theorem emitAll_bits (xs : List Bit) (s : State) :
    s.emitAll (xs.map .bit) = { s with packOut := s.packOut ++ xs.map .bit } := by
  induction xs generalizing s with
  | nil => simp [State.emitAll]
  | cons x xs ih =>
    have h : s.emitAll ((x :: xs).map .bit) = (s.emit (.bit x)).emitAll (xs.map .bit) := rfl
    rw [h, ih]
    simp [State.emit]

/-- The program port after an item has been emitted or the stream closed: as before, or longer by one
item where the packer feeds it. -/
theorem emit_progQ (s : State) (x : PackOut) :
    (s.emit x).progQ = s.progQ ∨ s.wired = true ∧ ∃ c, x = .code c ∧ (s.emit x).progQ = s.progQ ++ [.code c] := by
  cases x with
  | code c => cases h : s.wired <;> simp [State.emit, h]
  | bit | byte => exact .inl rfl

theorem closeOut_progQ (s : State) (how : Close) :
    (s.closeOut how).progQ = s.progQ ∨
    s.wired = true ∧ s.pop = .b2i ∧ (s.closeOut how).progQ = s.progQ ++ [.closed how] := by
  cases h : s.pop <;> cases h' : s.wired <;> simp [State.closeOut, h, h']

/-- The packer stops the model only at an item of another type than its port's. -/
theorem packItem_next {s : State} {x : PackItem} (h : packItemWellFormed s.pop x = true) :
    ∃ t, packItem s x = .next t := by
  unfold packItemWellFormed at h
  unfold packItem
  split at h <;> simp_all

/-! ## The live part of a state -/

theorem live_of_run {s : State} (h : s.status = .run) : s.live = s := by simp [State.live, h]

@[simp] theorem live_status (s : State) : s.live.status = s.status := by
  unfold State.live; split <;> rfl

/-- States with the same live part are in the same phase, and there agree on what is not set aside. -/
theorem live_cases {s u : State} (h : s.live = u.live) :
    s.status = u.status ∧
    (s.status = .idle ∨ s.status = .faulted ∨ s.status = .refused →
      s.clearExec.clearScan.clearProgram = u.clearExec.clearScan.clearProgram) ∧
    (s.status = .load → s.clearExec.clearScan = u.clearExec.clearScan) ∧
    (s.status = .prep → s.clearExec = u.clearExec) ∧
    (s.status = .run → s = u) ∧
    (s.status = .halted → s.clearScan.clearProgram = u.clearScan.clearProgram) := by
  have hs : s.status = u.status := by simpa using congrArg State.status h
  refine ⟨hs, ?_, ?_, ?_, ?_, ?_⟩
  · rintro (e | e | e) <;> simpa [State.live, e, hs ▸ e] using h
  all_goals intro e; simpa [State.live, e, hs ▸ e] using h

/-- Everything one step of the core can do. -/
theorem stepWith_cases (supp : Config.Support) (s : State) :
    (s.turns = [] ∧ stepWith supp s = runStep supp s) ∨
    (∃ ts, s.turns = .run :: ts ∧ stepWith supp s = runStep supp s.popTurn) ∨
    (∃ ts, s.turns = .pack :: ts ∧ stepWith supp s = packStep s.popTurn) ∨
    (∃ m ts, s.turns = .host m :: ts ∧ stepWith supp s = .next (hostStep m s.popTurn)) := by
  unfold stepWith
  split
  · exact .inl ⟨‹_›, rfl⟩
  · exact .inr (.inl ⟨_, ‹_›, rfl⟩)
  · exact .inr (.inr (.inl ⟨_, ‹_›, rfl⟩))
  · exact .inr (.inr (.inr ⟨_, _, ‹_›, rfl⟩))

end Machine
end Sys2Proof
end

