-- ==== Sys2Proof/Laws/PerInstr.lean ====
section
/-! SUPPORT. Statements about every instruction as syntax, one lemma per constructor. -/

namespace Sys2Proof
namespace Laws
namespace SymbolForm

/-- The assembler reads an instruction's symbol back as that instruction (30_encoding.md R98), the
instruction is well formed (R93), and its code is a word the checks admit (R91). -/
def Statement (i : Instr) : Prop :=
  assemble [i.symbol] = .ok [i] ∧ i.wellFormed = true ∧ wordWellFormed 8 (encode i).toNat = true

theorem right : Statement .right := by unfold Statement; decide

theorem left : Statement .left := by unfold Statement; decide

theorem inc : Statement .inc := by unfold Statement; decide

theorem dec : Statement .dec := by unfold Statement; decide

theorem out : Statement .out := by unfold Statement; decide

theorem in_ : Statement .in_ := by unfold Statement; decide

theorem open_ : Statement .open_ := by unfold Statement; decide

theorem close : Statement .close := by unfold Statement; decide

end SymbolForm
end Laws
end Sys2Proof
end

