-- ==== Sys2Proof/Tests/Slice0.lean ====
section
/-! SUPPORT. Tests against the spec's own examples and vectors (95_test_vectors.md), the smoke test of the
checks, and for each statement of Certificates/Slice0/Obligations.lean with hypotheses a state that meets
them. -/

namespace Sys2Proof
namespace Tests

open Machine

/-! ## Helpers -/

/-- A machine that executes the program `p` at position `pc`. -/
def running (p : List Instr) (jt : JumpTable) (pc : Nat) : State :=
  { State.reset with status := .run, tape := Memory.zeroed, imem := encodeProgram p, jt := jt, pc := pc }

/-- A machine that executes one instruction with the cell 0 holding `v`, cells `w` bits wide. -/
def atCell (i : Instr) (w : Nat) (v : Int) : State :=
  { running [i] [] 0 with
    cfg := { Cfg.default with w := w }
    tape := { fresh := .zero, cells := if v = 0 then [] else [(0, v)] }
    credit := 1 }

/-- A machine that executes one pointer instruction at `ptr` of a tape of `n` cells. -/
def atIndex (i : Instr) (n : Nat) (wrap : Bool) (ptr : Int) : State :=
  { running [i] [] 0 with cfg := { Cfg.default with n := n, wrap := wrap }, ptr := ptr }

/-- A packer call of operation `op` with a group begun. -/
def packing (op : PackOp) (acc cnt : Nat) (q : List PackItem) : State :=
  { State.reset with phase := .busy, pop := op, acc := acc, cnt := cnt, packQ := q }

/-- A field of the next state. -/
def after {α : Type} (r : Result) (f : State → α) : Option α :=
  match r with
  | .next t => some (f t)
  | .fault _ => none
  | .refused _ => none

/-- A machine that scans the program `p` from `scan` on. -/
def scanning (p : List Instr) (scan : Nat) (st : List Nat) (jt : JumpTable) : State :=
  { State.reset with status := .prep, imem := encodeProgram p, scan := scan, bstack := st, jt := jt }

/-- A machine that loads, with the items `q` at the program port. -/
def loading (p : List Instr) (q : List ProgItem) : State :=
  { State.reset with status := .load, imem := encodeProgram p, progQ := q }

/-! ## The checks refuse what is ill formed (30_encoding.md R91, 41_jump_table.md R153, 10_state.md R35) -/

theorem test_word_too_wide_refused : wordWellFormed 8 8 = false ∧ decodeTableWord 8 8 = none := by decide

theorem test_word_too_short_refused : wordWellFormed 2 1 = false ∧ decodeTableWord 2 1 = none := by decide

theorem test_unmatched_close_refused : programWellFormed [.close, .open_] = false := by decide

theorem test_unmatched_open_refused : programWellFormed [.open_, .open_, .close] = false := by decide

theorem test_matched_accepted : programWellFormed [.open_, .open_, .close, .close, .open_, .close] = true := by
  decide

theorem test_byte_at_b2i_refused : packItemWellFormed .b2i (.byte 0) = false := by decide

theorem test_bit_at_y2b_refused : packItemWellFormed .y2b (.bit true) = false := by decide

/-- 30_encoding.md R98, D20: white space is refused. -/
theorem test_other_character_refused : assemble ['+', ' ', '-'] = .error .notASymbol := by decide

/-! ## Decoding, words written out from the opcode map (30_encoding.md R92) -/

theorem test_decode_pointer : decode 0b000#3 = .right ∧ decode 0b001#3 = .left := by decide

theorem test_decode_arith : decode 0b010#3 = .inc ∧ decode 0b011#3 = .dec := by decide

theorem test_decode_io : decode 0b100#3 = .out ∧ decode 0b101#3 = .in_ := by decide

theorem test_decode_loop : decode 0b110#3 = .open_ ∧ decode 0b111#3 = .close := by decide

/-- E3: `,[.,]` is `101 110 100 101 111`. -/
theorem test_assemble_and_expand :
    (assemble [',', '[', '.', ',', ']']).map (fun p => i2b (encodeProgram p)) =
      .ok [true, false, true, true, true, false, true, false, false, true, false, true, true, true, true] := by
  decide

/-! ## One step of each instruction -/

/-- V52. -/
theorem test_right_wraps : after (exec .right (atIndex .right 30000 true 29999)) (·.ptr) = some 0 := by decide

/-- V55. -/
theorem test_right_faults : after (exec .right (atIndex .right 30000 false 29999))
    (fun t => (t.status, t.fcause, t.fpos)) = some (.faulted, .pointerOutOfRange, 0) := by decide

/-- V53. -/
theorem test_left_wraps : after (exec .left (atIndex .left 30000 true 0)) (·.ptr) = some 29999 := by decide

/-- V60 and V62. -/
theorem test_left_dynamic : after (exec .left (atIndex .left 0 true 0)) (·.ptr) = some (-1) ∧
    after (exec .left (atIndex .left 0 false 0)) (·.fcause) = some .pointerOutOfRange := by decide

/-- V67 and V71. -/
theorem test_inc_wraps : after (exec .inc (atCell .inc 8 255)) (·.tape) = some ⟨.zero, []⟩ ∧
    after (exec .inc (atCell .inc 0 255)) (·.tape) = some ⟨.zero, [(0, 256)]⟩ := by decide

/-- V68 and V70. -/
theorem test_dec_wraps : after (exec .dec (atCell .dec 8 0)) (·.tape) = some ⟨.zero, [(0, 255)]⟩ ∧
    after (exec .dec (atCell .dec 0 0)) (·.tape) = some ⟨.zero, [(0, -1)]⟩ := by decide

/-- V82 and V86. -/
theorem test_out_low_byte : after (exec .out (atCell .out 16 65535)) (·.sink) = some [0xFF#8] ∧
    after (exec .out (atCell .out 0 1000)) (fun t => (t.sink, t.outcnt)) = some ([0xE8#8], 1) := by decide

/-- V84. -/
theorem test_out_negative : after (exec .out (atCell .out 0 (-1))) (·.sink) = some [0xFF#8] := by decide

/-- V97: the whole cell is replaced. -/
theorem test_in_replaces_cell : after (exec .in_ { atCell .in_ 16 4660 with inQ := [.byte 0xFF#8] })
    (fun t => (t.tape, t.ineof, t.inQ)) = some (⟨.zero, [(0, 255)]⟩, false, []) := by decide

/-- V90 and V92. -/
theorem test_in_end_of_input : after (exec .in_ { atCell .in_ 8 7 with inQ := [.eof] })
    (fun t => (t.tape, t.ineof)) = some (⟨.zero, [(0, 7)]⟩, true) ∧
    after (exec .in_ { atCell .in_ 8 7 with
      inQ := [.eof], cfg := { Cfg.default with eofmode := .fill, fill := -1 } })
    (fun t => (t.tape, t.ineof)) = some (⟨.zero, [(0, 255)]⟩, true) := by decide

/-- V99 and V100. -/
theorem test_open : after (exec .open_ (running [.open_, .inc, .close] [(0, 2), (2, 0)] 0)) (·.pc) = some 3 ∧
    after (exec .open_ { running [.open_, .inc, .close] [(0, 2), (2, 0)] 0 with
      tape := ⟨.zero, [(0, 5)]⟩ }) (·.pc) = some 1 := by decide

/-- V102 and V109. -/
theorem test_close : after (exec .close (running [.open_, .inc, .close] [(0, 2), (2, 0)] 2)) (·.pc) = some 3 ∧
    after (exec .close { running [.open_, .dec, .close] [(0, 2), (2, 0)] 2 with
      tape := ⟨.zero, [(0, -1)]⟩ }) (·.pc) = some 1 := by decide

/-- The placed instruction is the one the next step runs: here `-` at reset. -/
theorem test_withFetchWord_runs : after (step (State.reset.withFetchWord 8 0b011)) (·.tape) =
    some ⟨.zero, [(0, 255)]⟩ := by decide

/-- The placed `[` is fetched, with its partner after it. -/
theorem test_withFetchWord_open : (State.reset.withFetchWord 8 0b110).fetch = some .open_ ∧
    after (step (State.reset.withFetchWord 8 0b110)) (·.pc) = some 2 := by decide

/-! ## The units -/

/-- V39 and V49. -/
theorem test_jump_table : buildJumpTable (encodeProgram [.open_, .open_, .close, .close, .open_, .close]) =
      .ok [(0, 3), (1, 2), (2, 1), (3, 0), (4, 5), (5, 4)] ∧
    buildJumpTable (encodeProgram [.inc, .open_, .dec, .close, .close, .inc, .open_]) =
      .error (.unmatchedClose 4) := by decide

/-- V45: the bottom of the stack. -/
theorem test_jump_table_open : buildJumpTable (encodeProgram [.open_, .open_, .close]) =
    .error (.unmatchedOpen 0) := by decide

/-- V8 and V3. -/
theorem test_b2i : b2i [true, false, false] = .ok [4#3] ∧ b2i [false, true] = .error 2 := by decide

/-- V20 and V18. -/
theorem test_b2y : b2y [true, false, true, true, false, false, true, false, true] = ([0xB2#8, 0x80#8], true) ∧
    b2y [true, true, true, true, true, true, true] = ([0xFE#8], true) := by decide

/-- V25 and V27. -/
theorem test_y2b : y2b [0xA5#8] = [true, false, true, false, false, true, false, true] ∧
    y2b [0x01#8] = [false, false, false, false, false, false, false, true] := by decide

/-- V110, its last step: the aborted load. -/
theorem test_load_abort : after (step (loading [.close] [.closed .abort]))
    (fun t => (t.status, t.fcause, t.fpos)) = some (.faulted, .incompleteGroup, 1) := by decide

/-- V115: an implementation that does not support the configuration refuses. -/
theorem test_refused : after (stepWith (fun _ _ => false) (loading [.inc] [.closed .fin]))
    (fun t => (t.status, t.fcause, t.fpos)) = some (.refused, .unsupported, 0) := by decide

/-! ## Witnesses: the hypotheses of each statement are met, each clause at a boundary -/

theorem witness_SymbolCodesAreTableIndices : (8 ≤ 8 ∨ 8 < 3) ∧ (8 ≤ 0 ∨ 2 < 3) := by decide

theorem witness_ProgramsAndBitSequencesAgree :
    ([Instr.out] : List Instr)[0]? = some .out ∧ ([true, false, false] : List Bit).length = 3 * 1 := by decide

theorem witness_ByteCodecRoundTrips :
    (List.replicate 8 true : List Bit).length % 8 = 0 ∧ (List.replicate 7 true : List Bit).length % 8 ≠ 0 := by
  decide

theorem witness_ByteImageWithoutLengthHazard :
    (List.replicate 8 2#3).length % 8 = 0 ∧ (List.replicate 7 2#3).length % 8 = 7 ∧
    (List.replicate 6 2#3).length % 8 = 6 ∧
    (1 ≤ (List.replicate 1 2#3).length % 8 ∧ (List.replicate 5 2#3).length % 8 ≤ 5) := by decide

theorem witness_PackerGroupsBitsMsbFirst :
    (let s := packing .b2i 3 2 [.bit true]; s.phase = .busy ∧ s.pop = .b2i ∧ s.cnt + 1 = 3) ∧
    (let s := packing .b2y 127 7 [.bit true]; s.phase = .busy ∧ s.pop = .b2y ∧ s.cnt + 1 = 8) ∧
    (let s := packing .b2y 63 6 [.bit true]; s.phase = .busy ∧ s.pop = .b2y ∧ s.cnt + 1 ≠ 8) ∧
    (let s := packing .b2i 0 0 [.bit true]; s.packQ = .bit true :: [] ∧ s.pop = .b2i ∧ s.cnt + 1 ≠ 3) := by
  decide

theorem witness_B2IEndReportsIncompleteGroup :
    (let s := packing .b2i 0 0 [.fin]
     s.phase = .busy ∧ s.packQ = .fin :: [] ∧ s.pop = .b2i ∧ s.wired = false ∧ s.cnt = 0) ∧
    (let s := packing .b2i 3 2 [.fin]
     s.phase = .busy ∧ s.packQ = .fin :: [] ∧ s.pop = .b2i ∧ s.wired = false ∧ s.cnt ≠ 0) ∧
    (let s := { packing .b2i 1 1 [.fin] with wired := true }
     s.phase = .busy ∧ s.packQ = .fin :: [] ∧ s.pop = .b2i ∧ s.wired = true ∧ s.cnt ≠ 0) := by decide

theorem witness_B2YEndPadsAndReports :
    (let s := packing .b2y 127 7 [.fin]; s.phase = .busy ∧ s.packQ = .fin :: [] ∧ s.pop = .b2y ∧ 0 < s.cnt) ∧
    (let s := packing .b2y 0 0 [.fin]; s.phase = .busy ∧ s.packQ = .fin :: [] ∧ s.pop = .b2y ∧ s.cnt = 0) := by
  decide

theorem witness_ExpandingOperationsEmitMsbFirst :
    (let s := packing .i2b 0 0 [.code 4#3]; s.phase = .busy ∧ s.pop = .i2b ∧ s.packQ = .code 4#3 :: []) ∧
    (let s := packing .y2b 0 0 [.byte 0x80#8]; s.phase = .busy ∧ s.pop = .y2b ∧ s.packQ = .byte 0x80#8 :: []) ∧
    (let s := packing .y2b 0 0 [.fin]; s.phase = .busy ∧ s.pop = .y2b ∧ s.packQ = .fin :: []) := by decide

theorem witness_PackerCallStartClearsGroup :
    State.reset.phase ≠ .busy ∧ (packing .b2i 1 1 []).phase = .busy := by decide

/-- One bit, a short group: the error clause; three bits: the success clause. -/
theorem witness_B2IStreamAgreesWithFunction :
    (let s := { packing .b2i 0 0 [.bit true, .fin] with turns := [.pack, .pack] }
     s.phase = .busy ∧ s.pop = .b2i ∧ s.acc = 0 ∧ s.cnt = 0 ∧ s.packOut = [] ∧
     s.packQ = [true].map .bit ++ .fin :: [] ∧ s.turns = List.replicate (1 + 1) .pack) ∧
    b2i [true] = .error 1 ∧ b2i [true, true, true] = .ok [7#3] := by decide

theorem witness_B2YStreamAgreesWithFunction :
    let s := { packing .b2y 0 0 [.bit true, .fin] with turns := [.pack, .pack] }
    s.phase = .busy ∧ s.pop = .b2y ∧ s.acc = 0 ∧ s.cnt = 0 ∧ s.pad = false ∧ s.packOut = [] ∧
    s.packQ = [true].map .bit ++ .fin :: [] ∧ s.turns = List.replicate (1 + 1) .pack := by decide

theorem witness_ExpandingStreamsAgreeWithFunction :
    (let s := { packing .i2b 0 0 [.code 4#3, .fin] with turns := [.pack, .pack] }
     s.phase = .busy ∧ s.pop = .i2b ∧ s.packOut = [] ∧
     s.packQ = [4#3].map .code ++ .fin :: [] ∧ s.turns = List.replicate (1 + 1) .pack) ∧
    (let s := { packing .y2b 0 0 [.byte 4#8, .fin] with turns := [.pack, .pack] }
     s.phase = .busy ∧ s.pop = .y2b ∧ s.packOut = [] ∧
     s.packQ = [4#8].map .byte ++ .fin :: [] ∧ s.turns = List.replicate (1 + 1) .pack) := by decide

/-- A step that fails and is not connected: both implications of the frame. -/
theorem witness_PackerStepFrame : ∃ s t : State, packStep s = .next t ∧ s.wired = false ∧ t.phase = .failed :=
  ⟨packing .b2i 1 1 [.fin], _, rfl, rfl, rfl⟩

/-- The bits of V111 (`]`), and those of V110 (`]` and one bit more). -/
theorem witness_LoadThroughPacker :
    (let s := { packing .b2i 0 0 [.bit true, .bit true, .bit true, .fin] with
      status := .load, wired := true, turns := [.pack, .pack, .pack, .pack, .run, .run] }
     s.status = .load ∧ s.imem = [] ∧ s.progQ = [] ∧ s.wired = true ∧ s.phase = .busy ∧ s.pop = .b2i ∧
     s.acc = 0 ∧ s.cnt = 0 ∧ s.packQ = [true, true, true].map .bit ++ [.fin] ∧
     s.turns = List.replicate (3 + 1) .pack ++ List.replicate (3 / 3 + 1) .run) ∧
    b2i [true, true, true] = .ok [7#3] ∧ b2i [true, true, true, true] = .error 1 ∧
    Config.supported State.reset.cfg [7#3].length = true ∧
    (fun (_ : Cfg) (_ : Nat) => false) State.reset.cfg [7#3].length = false := by decide

/-- E6 `[`, `]`, `[]`. -/
theorem witness_JumpTableFunctionForm :
    buildJumpTable (encodeProgram [.close]) = .error (.unmatchedClose 0) ∧
    buildJumpTable (encodeProgram [.open_]) = .error (.unmatchedOpen 0) ∧
    buildJumpTable (encodeProgram [.open_, .close]) = .ok [(0, 1), (1, 0)] ∧
    (encodeProgram [.open_, .close])[0]? = some (encode .open_) := by decide

/-- Nested and disjoint pairs of V39. -/
theorem witness_JumpTableProperties :
    let p := encodeProgram [.open_, .open_, .close, .close, .open_, .close]
    let jt := [(0, 3), (1, 2), (2, 1), (3, 0), (4, 5), (5, 4)]
    buildJumpTable p = .ok jt ∧ p[0]? = some (encode .open_) ∧ p[1]? = some (encode .open_) ∧
    p[5]? = some (encode .close) ∧ assocGet? jt 0 = some 3 ∧ assocGet? jt 1 = some 2 := by decide

theorem witness_ScanStepsAtBrackets :
    (let s := scanning [.open_] 0 [] []
     s.status = .prep ∧ s.scan < s.len ∧ s.imem[s.scan]? = some (encode .open_)) ∧
    (let s := scanning [.open_, .close] 1 [0] []
     s.status = .prep ∧ s.scan < s.len ∧ s.imem[s.scan]? = some (encode .close) ∧ s.bstack = [] ++ [0]) ∧
    (let s := scanning [.close] 0 [] []
     s.status = .prep ∧ s.scan < s.len ∧ s.imem[s.scan]? = some (encode .close) ∧ s.bstack = []) := by decide

theorem witness_StackHoldsUnmatchedOpensInOrder :
    scanCodes (encodeProgram [.open_, .open_, .open_, .close]) 0 [] [] = .ok ([0, 1], [(2, 3), (3, 2)]) := by
  decide

theorem witness_ScanPassesOtherInstructions :
    let s := scanning [.in_] 0 [] []
    s.status = .prep ∧ s.imem[s.scan]? = some 5#3 ∧ (5#3).toNat ≤ 5 := by decide

theorem witness_FinalScanStepStartsOrFaults :
    (let s := scanning [.open_] 1 [0] []; s.status = .prep ∧ s.scan = s.len ∧ s.bstack = 0 :: []) ∧
    (let s := scanning [] 0 [] []; s.status = .prep ∧ s.scan = s.len ∧ s.bstack = []) := by decide

theorem witness_ScanAgreesWithFunctionForm :
    (∀ p ∈ [[Instr.open_, .close], [.close], [.open_]],
      let s := scanning p 0 [] []
      s.status = .prep ∧ s.scan = 0 ∧ s.bstack = [] ∧ s.jt = [] ∧ s.turns = []) ∧
    buildJumpTable (scanning [.open_, .close] 0 [] []).imem = .ok [(0, 1), (1, 0)] ∧
    buildJumpTable (scanning [.close] 0 [] []).imem = .error (.unmatchedClose 0) ∧
    buildJumpTable (scanning [.open_] 0 [] []).imem = .error (.unmatchedOpen 0) := by decide

theorem witness_StartAndConfigureOnlyBetweenRuns :
    State.reset.status = .idle ∧ { State.reset with status := .refused }.status = Status.refused ∧
    (running [] [] 0).status = .run ∧ (loading [] []).status = .load := by decide

theorem witness_LoaderConsumesProgramPort :
    (let s := loading [] [.code 2#3]; s.status = .load ∧ s.progQ = .code 2#3 :: []) ∧
    (let s := loading [] [.closed .fin]
     s.status = .load ∧ s.progQ = .closed .fin :: [] ∧ Config.supported s.cfg s.len = true ∧
     (fun (_ : Cfg) (_ : Nat) => false) s.cfg s.len = false) := by decide

theorem witness_LoadAbortDiscardsProgram :
    let s := loading [.close] [.closed .abort]; s.status = .load ∧ s.progQ = .closed .abort :: [] := by decide

theorem witness_NothingHappensOutsideBeforeExecution :
    (loading [] []).status = .load ∧ (scanning [.out] 0 [] []).status = .prep := by decide

theorem witness_StepRunsDecodedInstruction :
    (let s := running [.inc, .out] [] 1; s.status = .run ∧ s.imem[s.pc]? = some 4#3 ∧ s.turns = []) ∧
    (let s := { running [.inc] [] 0 with turns := [.run] }
     s.status = .run ∧ s.imem[s.pc]? = some 2#3 ∧ s.turns = .run :: []) := by decide

theorem witness_RunHaltsAtProgramEnd :
    (let s := running [.inc] [] 1; s.status = .run ∧ s.len ≤ s.pc) ∧
    ∃ u t : State, u.status = .run ∧ exec .close u = .next t :=
  ⟨by decide, running [.open_, .close] [(0, 1), (1, 0)] 1, _, rfl, rfl⟩

/-- The right end of a tape of one cell, with and without wraparound, and a dynamic tape. -/
theorem witness_RightMovesOrFaults :
    (let s := atIndex .right 1 false 0
     validIndex s.cfg s.ptr = true ∧ 0 < s.cfg.n ∧ s.cfg.wrap = false ∧ s.ptr = (s.cfg.n : Int) - 1) ∧
    (let s := atIndex .right 1 true 0
     validIndex s.cfg s.ptr = true ∧ ¬(0 < s.cfg.n ∧ s.cfg.wrap = false ∧ s.ptr = (s.cfg.n : Int) - 1)) ∧
    (let s := atIndex .right 0 true (-5)
     validIndex s.cfg s.ptr = true ∧ ¬(0 < s.cfg.n ∧ s.cfg.wrap = false ∧ s.ptr = (s.cfg.n : Int) - 1)) := by
  decide

/-- The left end of a dynamic tape without negative indices, and of one with them. -/
theorem witness_LeftMovesOrFaults :
    (let s := atIndex .left 0 false 0
     validIndex s.cfg s.ptr = true ∧ s.cfg.wrap = false ∧ s.ptr = 0) ∧
    (let s := atIndex .left 0 true 0
     validIndex s.cfg s.ptr = true ∧ ¬(s.cfg.wrap = false ∧ s.ptr = 0)) ∧
    (let s := atIndex .left 30000 false 29999
     validIndex s.cfg s.ptr = true ∧ ¬(s.cfg.wrap = false ∧ s.ptr = 0)) := by decide

/-- `W > 0` and `W = 0`, at the largest and the smallest cell. -/
theorem witness_IncAddsOneToCurrentCell :
    (let s := atCell .inc 8 255; validIndex s.cfg s.ptr = true ∧ s.tape.wf ∧ 0 < s.cfg.w) ∧
    (let s := atCell .inc 0 (-1); validIndex s.cfg s.ptr = true ∧ s.tape.wf ∧ s.cfg.w = 0) := by decide

theorem witness_DecSubtractsOneFromCurrentCell :
    (let s := atCell .dec 8 0; validIndex s.cfg s.ptr = true ∧ s.tape.wf ∧ 0 < s.cfg.w) ∧
    (let s := atCell .dec 0 0; validIndex s.cfg s.ptr = true ∧ s.tape.wf ∧ s.cfg.w = 0) := by decide

theorem witness_IncAndDecUndoEachOther :
    (let s := atCell .inc 8 255
     validIndex s.cfg s.ptr = true ∧ s.tape.wf ∧
     (0 < s.cfg.w → 0 ≤ s.tape.read s.ptr ∧ s.tape.read s.ptr < ((2 ^ s.cfg.w : Nat) : Int))) ∧
    (let s := atCell .dec 1 0
     validIndex s.cfg s.ptr = true ∧ s.tape.wf ∧
     (0 < s.cfg.w → 0 ≤ s.tape.read s.ptr ∧ s.tape.read s.ptr < ((2 ^ s.cfg.w : Nat) : Int))) := by decide

theorem witness_RepeatedIncCountsModuloWidth :
    (let s := atCell .inc 1 1
     validIndex s.cfg s.ptr = true ∧ s.tape.wf ∧ 0 < s.cfg.w ∧
     (0 < s.cfg.w → 0 ≤ s.tape.read s.ptr ∧ s.tape.read s.ptr < ((2 ^ s.cfg.w : Nat) : Int))) ∧
    (let s := atCell .inc 0 7
     validIndex s.cfg s.ptr = true ∧ s.tape.wf ∧ s.cfg.w = 0 ∧
     (0 < s.cfg.w → 0 ≤ s.tape.read s.ptr ∧ s.tape.read s.ptr < ((2 ^ s.cfg.w : Nat) : Int))) := by decide

theorem witness_OutDeliversCellModulo256 :
    let s := atCell .out 0 (-1); validIndex s.cfg s.ptr = true ∧ 0 < s.credit := by decide

theorem witness_InStoresInputByte :
    (let s := { atCell .in_ 4 0 with inQ := [.byte 0xFF#8] }
     validIndex s.cfg s.ptr = true ∧ s.tape.wf ∧ s.ineof = false ∧ s.inQ = .byte 0xFF#8 :: [] ∧ 0 < s.cfg.w) ∧
    (let s := { atCell .in_ 0 (-3) with inQ := [.byte 0xFF#8] }
     validIndex s.cfg s.ptr = true ∧ s.tape.wf ∧ s.ineof = false ∧ s.inQ = .byte 0xFF#8 :: [] ∧ s.cfg.w = 0) := by
  decide

/-- End of input met now under `NOCHANGE`, and met before (no answer ready) under `FILL`. -/
theorem witness_InAppliesEndOfInputPolicy :
    (let s := { atCell .in_ 8 7 with inQ := [.eof] }
     validIndex s.cfg s.ptr = true ∧ s.tape.wf ∧ s.ineof = false ∧ s.inQ = .eof :: [] ∧
     s.cfg.eofmode = .noChange) ∧
    (let s := { atCell .in_ 8 7 with ineof := true, cfg := { Cfg.default with eofmode := .fill, fill := -1 } }
     validIndex s.cfg s.ptr = true ∧ s.tape.wf ∧ s.ineof = true ∧ [] = s.inQ ∧ s.cfg.eofmode = .fill ∧
     0 < s.cfg.w) ∧
    (let s := { atCell .in_ 0 7 with ineof := true, cfg := { Cfg.default with w := 0, eofmode := .fill } }
     validIndex s.cfg s.ptr = true ∧ s.tape.wf ∧ s.ineof = true ∧ [] = s.inQ ∧ s.cfg.eofmode = .fill ∧
     s.cfg.w = 0) := by decide

theorem witness_WaitingInstructionsHold :
    (let s := { atCell .out 8 1 with credit := 0 }; validIndex s.cfg s.ptr = true ∧ s.credit = 0) ∧
    (let s := atCell .in_ 8 1; s.ineof = false ∧ s.inQ = []) := by decide

theorem witness_OpenJumpsOnZero :
    let s := running [.open_, .inc, .close] [(0, 2), (2, 0)] 0
    validIndex s.cfg s.ptr = true ∧ assocGet? s.jt s.pc = some 2 := by decide

theorem witness_CloseJumpsOnNonZero :
    let s := { running [.open_, .inc, .close] [(0, 2), (2, 0)] 2 with tape := ⟨.zero, [(0, -1)]⟩ }
    validIndex s.cfg s.ptr = true ∧ assocGet? s.jt s.pc = some 0 := by decide

theorem witness_BracketsWriteOnlyPc :
    (let s := { running [.open_] [] 0 with tape := ⟨.zero, [(0, 1)]⟩ }
     validIndex s.cfg s.ptr = true ∧ s.tape.read s.ptr ≠ 0) ∧
    (let s := running [.close] [] 0; validIndex s.cfg s.ptr = true ∧ s.tape.read s.ptr = 0) := by decide

theorem witness_OnlyPointerMovesFault :
    (let s := atIndex .left 1 false 0; s.status = .run ∧ validIndex s.cfg s.ptr = true) ∧
    (let s := atCell .out 8 255; s.status = .run ∧ validIndex s.cfg s.ptr = true) := by decide

theorem witness_InstructionsLeaveProgramAndUnitsAlone :
    ∃ s t : State, exec .in_ s = .next t ∧ s.status = .run ∧ t.status = .run :=
  ⟨{ atCell .in_ 8 1 with inQ := [.byte 0xFF#8] }, _, rfl, rfl, rfl⟩

theorem witness_EachInstructionWritesOnlyItsOwn :
    (∃ s t : State, s.status = .run ∧ exec .right s = .next t ∧ t.status = .run ∧ s.tape.wf) ∧
    (∃ s t : State, s.status = .run ∧ exec .inc s = .next t ∧ t.status = .run ∧ s.tape.wf ∧
      (1 : Int) ≠ s.ptr) ∧
    (∃ s t : State, s.status = .run ∧ exec .out s = .next t ∧ t.status = .run) :=
  ⟨⟨atIndex .right 2 false 0, _, rfl, rfl, rfl, by decide⟩,
   ⟨atCell .inc 8 255, _, rfl, rfl, rfl, by decide, by decide⟩,
   ⟨atCell .out 8 255, _, rfl, rfl, rfl⟩⟩

/-- A machine in the middle of the loop of `[-]`, with a packer call begun. -/
def sound : State :=
  { running [.open_, .dec, .close] [(0, 2), (2, 0)] 2 with
    tape := ⟨.zero, [(0, 1)]⟩
    phase := .busy, pop := .b2y, acc := 127, cnt := 7, packQ := [.bit true] }

theorem sound_inv : sound.Inv := by
  refine ⟨by decide, fun _ => ⟨by decide, by decide, rfl, by decide, fun _ => by decide, by rfl⟩, ?_, ?_, ?_, ?_⟩
  · exact fun h => absurd h (by decide)
  · exact fun h => absurd h (by decide)
  · exact ⟨by decide, by decide, fun _ => rfl⟩
  · exact ⟨by decide, by decide, fun _ => by decide, fun h => absurd h (by decide), fun _ => rfl,
      fun h => absurd h (by decide)⟩

theorem witness_StepKeepsInvariant : ∃ s t : State, s.Inv ∧ step s = .next t := ⟨sound, _, sound_inv, rfl⟩

/-- The packer's turn, before a bit: the typing premise is met by the item itself. -/
theorem witness_SoundStatesNeverStop : ∃ s : State, s.Inv ∧ s.turns = [.pack] ∧
    ∀ x r ts, s.turns = .pack :: ts → s.packQ = x :: r → s.phase = .busy →
      packItemWellFormed s.pop x = true := by
  obtain ⟨h1, h2, h3, h4, h5, h6⟩ := sound_inv
  refine ⟨{ sound with turns := [.pack] }, ⟨h1, h2, h3, h4, h5, h6⟩, rfl, ?_⟩
  rintro x r ts _ h _
  cases h
  rfl

theorem witness_EndedRunsAreTerminal :
    (∃ s t : State, s.status = .faulted ∧ step s = .next t ∧ s.turns = []) ∧
    (∃ s t : State, s.status = .refused ∧ step s = .next t ∧ s.turns.head? = some (.host .start)) ∧
    (∃ s t : State, s.status = .halted ∧ step s = .next t ∧ s.turns.head? = some (.host .reset)) :=
  ⟨⟨{ State.reset with status := .faulted }, _, rfl, rfl, rfl⟩,
   ⟨{ State.reset with status := .refused, turns := [.host .start] }, _, rfl, rfl, rfl⟩,
   ⟨{ State.reset with status := .halted, turns := [.host .reset] }, _, rfl, rfl, rfl⟩⟩

/-- A configuration write during a run, and a step of the run. -/
theorem witness_ProgramAndConfigurationAreFixedDuringRun :
    (∃ s t : State, step s = .next t ∧ s.turns.head? ≠ some (.host .reset) ∧ s.status = .run ∧
      t.status ≠ .faulted) ∧
    (∃ s t : State, step s = .next t ∧ s.turns.head? ≠ some (.host .reset) ∧ s.status = .load) :=
  ⟨⟨{ running [.inc] [] 0 with turns := [.host (.writeW 1)] }, _, rfl, by decide, rfl, by decide⟩,
   ⟨loading [] [.code 2#3], _, rfl, by decide, rfl⟩⟩

theorem witness_SinkOnlyGrowsAndIsCounted : ∃ s t : State, step s = .next t ∧ t.sink ≠ s.sink :=
  ⟨atCell .out 8 255, _, rfl, by decide⟩

theorem witness_StartsDoNotDependOnThePast :
    State.reset.status = .idle ∧
    (let s := loading [.inc] [.closed .fin]
     s.status = .load ∧ s.progQ = .closed .fin :: [] ∧ Config.supported s.cfg s.len = true) ∧
    (let s := scanning [.inc] 1 [] []; s.status = .prep ∧ s.scan = s.len ∧ s.bstack = []) ∧
    State.reset.phase ≠ .busy := by decide

/-- Two different states with the same live part, in each phase before execution. -/
theorem witness_LeftoversNeverReachALaterRunOrCall :
    (let s := loading [.inc] [.closed .fin]; let u := { s with pc := 5, scan := 3, jt := [(0, 1)] }
     s ≠ u ∧ s.live = u.live) ∧
    (let s := scanning [.inc] 0 [] []; let u := { s with ptr := -2, ineof := true }
     s ≠ u ∧ s.live = u.live) ∧
    State.reset.status = .idle ∧ State.reset.phase ≠ .busy := by decide

theorem witness_FinalStateIsReadableOnlyInHalted :
    { State.reset with status := .halted }.status = Status.halted ∧ State.reset.status ≠ .halted := by decide

end Tests
end Sys2Proof
end

section
/-! PROOFS (00_scope.md R10). The run neither reads nor writes the packer's state: every update and every
operation of the run commutes with `State.withPackOf`. -/

namespace Sys2Proof
namespace Machine

section WithPackOf

variable (s u : State)

/-! ## What the run reads is not the packer's -/

@[simp] theorem State.withPackOf_pc : (s.withPackOf u).pc = s.pc := rfl
@[simp] theorem State.withPackOf_ptr : (s.withPackOf u).ptr = s.ptr := rfl
@[simp] theorem State.withPackOf_tape : (s.withPackOf u).tape = s.tape := rfl
@[simp] theorem State.withPackOf_ineof : (s.withPackOf u).ineof = s.ineof := rfl
@[simp] theorem State.withPackOf_imem : (s.withPackOf u).imem = s.imem := rfl
@[simp] theorem State.withPackOf_jt : (s.withPackOf u).jt = s.jt := rfl
@[simp] theorem State.withPackOf_scan : (s.withPackOf u).scan = s.scan := rfl
@[simp] theorem State.withPackOf_bstack : (s.withPackOf u).bstack = s.bstack := rfl
@[simp] theorem State.withPackOf_cfg : (s.withPackOf u).cfg = s.cfg := rfl
@[simp] theorem State.withPackOf_status : (s.withPackOf u).status = s.status := rfl
@[simp] theorem State.withPackOf_inQ : (s.withPackOf u).inQ = s.inQ := rfl
@[simp] theorem State.withPackOf_credit : (s.withPackOf u).credit = s.credit := rfl
@[simp] theorem State.withPackOf_progQ : (s.withPackOf u).progQ = s.progQ := rfl
@[simp] theorem State.withPackOf_len : (s.withPackOf u).len = s.len := rfl
@[simp] theorem State.withPackOf_jump (i : Nat) : (s.withPackOf u).jump i = s.jump i := rfl
@[simp] theorem State.withPackOf_fetch : (s.withPackOf u).fetch = s.fetch := rfl

/-! ## What the run writes is not the packer's -/

@[simp] theorem State.setPc_withPackOf (v : Nat) :
    (s.withPackOf u).setPc v = (s.setPc v).withPackOf u := rfl
@[simp] theorem State.setPtr_withPackOf (v : Int) :
    (s.withPackOf u).setPtr v = (s.setPtr v).withPackOf u := rfl
@[simp] theorem State.setCell_withPackOf (v : Int) :
    (s.withPackOf u).setCell v = (s.setCell v).withPackOf u := rfl
@[simp] theorem State.advance_withPackOf : (s.withPackOf u).advance = s.advance.withPackOf u := rfl
@[simp] theorem State.deliver_withPackOf (b : Byte) :
    (s.withPackOf u).deliver b = (s.deliver b).withPackOf u := rfl
@[simp] theorem State.consumeInput_withPackOf :
    (s.withPackOf u).consumeInput = s.consumeInput.withPackOf u := rfl
@[simp] theorem State.latchEof_withPackOf : (s.withPackOf u).latchEof = s.latchEof.withPackOf u := rfl
@[simp] theorem State.raise_withPackOf (f : Cause) (info : Nat) :
    (s.withPackOf u).raise f info = (s.raise f info).withPackOf u := rfl
@[simp] theorem State.startExec_withPackOf : (s.withPackOf u).startExec = s.startExec.withPackOf u := rfl
@[simp] theorem State.beginPrep_withPackOf : (s.withPackOf u).beginPrep = s.beginPrep.withPackOf u := rfl
@[simp] theorem State.scanned_withPackOf (stack : List Nat) (jt : JumpTable) :
    (s.withPackOf u).scanned stack jt = (s.scanned stack jt).withPackOf u := rfl
@[simp] theorem State.consumeProgram_withPackOf :
    (s.withPackOf u).consumeProgram = s.consumeProgram.withPackOf u := rfl
@[simp] theorem State.appendCode_withPackOf (c : Code) :
    (s.withPackOf u).appendCode c = (s.appendCode c).withPackOf u := rfl
@[simp] theorem State.refuse_withPackOf : (s.withPackOf u).refuse = s.refuse.withPackOf u := rfl
@[simp] theorem State.discardProgram_withPackOf :
    (s.withPackOf u).discardProgram = s.discardProgram.withPackOf u := rfl
@[simp] theorem State.halt_withPackOf : (s.withPackOf u).halt = s.halt.withPackOf u := rfl

@[simp] theorem resultWithPackOf_next : resultWithPackOf (.next s) u = .next (s.withPackOf u) := rfl
@[simp] theorem resultWithPackOf_fault (f : Fault) : resultWithPackOf (.fault f) u = .fault f := rfl

/-! ## The operations of an instruction -/

/-- An access to the current cell commutes when what follows it does. -/
theorem withCell_withPackOf {k k' : Int → Result} (h : ∀ v, k' v = resultWithPackOf (k v) u) :
    withCell (s.withPackOf u) k' = resultWithPackOf (withCell s k) u := by
  by_cases hv : validIndex s.cfg s.ptr = true
  · simp [withCell, hv, h]
  · simp [withCell, hv]

theorem movePointer_withPackOf (d : Int) :
    movePointer d (s.withPackOf u) = resultWithPackOf (movePointer d s) u := by
  cases h : moveTarget s.cfg s.ptr d <;> simp [movePointer, h]

theorem addToCell_withPackOf (d : Int) :
    addToCell d (s.withPackOf u) = resultWithPackOf (addToCell d s) u :=
  withCell_withPackOf s u fun _ => by simp

theorem storeInput_withPackOf (v : Int) :
    storeInput (s.withPackOf u) v = resultWithPackOf (storeInput s v) u :=
  withCell_withPackOf s u fun _ => by simp

@[simp] theorem branch_withPackOf (jumps : Bool) :
    branch jumps (s.withPackOf u) = (branch jumps s).withPackOf u := by
  cases jumps <;> simp [branch]

theorem takeInput_withPackOf :
    takeInput (s.withPackOf u) = (takeInput s).map fun (x, t) => (x, t.withPackOf u) := by
  cases he : s.ineof with
  | true => simp [takeInput, he]
  | false => cases hq : s.inQ <;> simp [takeInput, he, hq]

theorem execOut_withPackOf : execOut (s.withPackOf u) = resultWithPackOf (execOut s) u := by
  refine withCell_withPackOf s u fun v => ?_
  by_cases hc : s.credit = 0 <;> simp [hc]

theorem execIn_withPackOf : execIn (s.withPackOf u) = resultWithPackOf (execIn s) u := by
  unfold execIn
  rw [takeInput_withPackOf]
  rcases takeInput s with _ | ⟨_ | _, t⟩
  · rfl
  · exact storeInput_withPackOf t u _
  · cases he : t.cfg.eofmode with
    | fill => simpa [he] using storeInput_withPackOf t.latchEof u t.cfg.fill
    | noChange => simp [he]

theorem execOpen_withPackOf : execOpen (s.withPackOf u) = resultWithPackOf (execOpen s) u :=
  withCell_withPackOf s u fun _ => by simp

theorem execClose_withPackOf : execClose (s.withPackOf u) = resultWithPackOf (execClose s) u :=
  withCell_withPackOf s u fun _ => by simp

/-! ## The transitions of the run -/

/-- Every instruction commutes with the exchange of the packer. -/
theorem exec_withPackOf (i : Instr) : exec i (s.withPackOf u) = resultWithPackOf (exec i s) u := by
  cases i with
  | right => exact movePointer_withPackOf s u 1
  | left => exact movePointer_withPackOf s u (-1)
  | inc => exact addToCell_withPackOf s u 1
  | dec => exact addToCell_withPackOf s u (-1)
  | out => exact execOut_withPackOf s u
  | in_ => exact execIn_withPackOf s u
  | open_ => exact execOpen_withPackOf s u
  | close => exact execClose_withPackOf s u

theorem execStep_withPackOf : execStep (s.withPackOf u) = resultWithPackOf (execStep s) u := by
  unfold execStep
  rw [State.withPackOf_fetch]
  cases s.fetch with
  | none => simp
  | some i => exact exec_withPackOf s u i

theorem prepStep_withPackOf : prepStep (s.withPackOf u) = (prepStep s).withPackOf u := by
  rcases prepStep_cases s with ⟨c, st, jt, hc, hs, e⟩ | ⟨c, hc, hs, e⟩ | ⟨hc, hb, e⟩ | ⟨o, st, hc, hb, e⟩ <;>
    rw [e]
  · simp [prepStep, hc, hs]
  · simp [prepStep, hc, hs]
  · simp [prepStep, hc, hb]
  · simp [prepStep, hc, hb]

theorem loadStep_withPackOf (supp : Config.Support) :
    loadStep supp (s.withPackOf u) = (loadStep supp s).withPackOf u := by
  rcases loadStep_cases supp s with
    ⟨hq, e⟩ | ⟨c, r, hq, e⟩ | ⟨r, hq, hs, e⟩ | ⟨r, hq, hs, e⟩ | ⟨r, hq, e⟩ <;> rw [e]
  · simp [loadStep, hq]
  · simp [loadStep, hq]
  · simp [loadStep, hq, hs]
  · simp [loadStep, hq, hs]
  · simp [loadStep, hq]

theorem runStep_withPackOf (supp : Config.Support) :
    runStep supp (s.withPackOf u) = resultWithPackOf (runStep supp s) u := by
  unfold runStep
  rw [State.withPackOf_status]
  cases s.status with
  | load => exact congrArg Host.Outcome.next (loadStep_withPackOf s u supp)
  | prep => exact congrArg Host.Outcome.next (prepStep_withPackOf s u)
  | run => exact execStep_withPackOf s u
  | idle | halted | faulted | refused => rfl

end WithPackOf

end Machine

/-- Settles O53: in each phase the unit that moves commutes with the exchange of the packer's state. -/
theorem runDoesNotDependOnPacker : Obligations.RunDoesNotDependOnPacker := by
  intro supp s u
  exact Machine.runStep_withPackOf s u supp

end Sys2Proof
end

section
/-! PROOFS (10_state.md R39, R43, R45). What each agent does to the sink, what reset leaves, and what the
host reads of a run that ended. -/

namespace Sys2Proof
namespace Machine

/-! ## The sink while the run moves -/

/-- An instruction keeps the sink or, as `.`, adds one byte and counts it (45_io.md R201). -/
theorem exec_sink {i : Instr} {s t : State} (h : exec i s = .next t) :
    t.sink = s.sink ∨ t.outcnt = s.outcnt + 1 ∧ ∃ b, t.sink = s.sink ++ [b] := by
  rcases exec_cases h with ⟨_, _, _, rfl⟩ | ⟨_, rfl⟩ | ⟨_, _, _, rfl⟩ | ⟨_, rfl⟩ | ⟨_, _, rfl⟩ | ⟨_, rfl⟩ |
    ⟨_, rfl | rfl⟩ | ⟨_, _, _, _, rfl | rfl | rfl, rfl⟩ | ⟨_, rfl | rfl⟩
  -- The delivery of `.` is the fifth case; no other writes the sink.
  case inr.inr.inr.inr.inl => exact .inr ⟨rfl, _, rfl⟩
  all_goals exact .inl rfl

theorem execStep_sink {s t : State} (h : execStep s = .next t) :
    t.sink = s.sink ∨ t.outcnt = s.outcnt + 1 ∧ ∃ b, t.sink = s.sink ++ [b] := by
  unfold execStep at h
  split at h
  · exact exec_sink h
  · cases h
    exact .inl rfl

@[simp] theorem prepStep_sink (s : State) : (prepStep s).sink = s.sink := by
  rcases prepStep_cases s with ⟨_, _, _, _, _, e⟩ | ⟨_, _, _, e⟩ | ⟨_, _, e⟩ | ⟨_, _, _, _, e⟩ <;> rw [e]
  · exact State.scanned_sink ..
  · exact State.raise_sink ..
  · exact State.startExec_sink ..
  · exact State.raise_sink ..

@[simp] theorem loadStep_sink (supp : Config.Support) (s : State) : (loadStep supp s).sink = s.sink := by
  rcases loadStep_cases supp s with ⟨_, e⟩ | ⟨_, _, _, e⟩ | ⟨_, _, _, e⟩ | ⟨_, _, _, e⟩ | ⟨_, _, e⟩ <;>
    simp [e]

/-- The run writes the sink in `RUN` only. -/
theorem runStep_sink {supp : Config.Support} {s t : State} (h : runStep supp s = .next t) :
    t.sink = s.sink ∨ s.status = .run ∧ t.outcnt = s.outcnt + 1 ∧ ∃ b, t.sink = s.sink ++ [b] := by
  unfold runStep at h
  cases hs : s.status <;> rw [hs] at h
  case run => exact (execStep_sink h).imp_right fun hb => ⟨rfl, hb⟩
  all_goals cases h
  case load => exact .inl (loadStep_sink supp s)
  case prep => exact .inl (prepStep_sink s)
  case idle | halted | faulted | refused => exact .inl rfl

/-! ## The packer and the host -/

/-- The packer's transition on an item writes the packer's registers and ports and the program port it may
feed, and nothing else (10_state.md R35, R40; log 12). -/
theorem packItem_frame {s t : State} {x : PackItem} (h : packItem s x = .next t) :
    t = { s with
      acc := t.acc, cnt := t.cnt, phase := t.phase, pad := t.pad, resid := t.resid
      packQ := t.packQ, packOut := t.packOut, packClose := t.packClose, progQ := t.progQ } := by
  unfold packItem at h
  split at h <;> cases h
  -- The first eight arms answer a next state: the bits, the ends of `B2I` and `B2Y`, the codes and bytes
  -- taken apart, the plain ends.
  case h_1 | h_5 => unfold State.takeBit; split <;> rfl
  case h_2 => unfold State.endB2i; split <;> rfl
  case h_6 => unfold State.endB2y; split <;> rfl
  case h_3 | h_7 => rw [emitAll_bits]
  case h_4 | h_8 => rfl

theorem packStep_frame {s t : State} (h : packStep s = .next t) :
    t = { s with
      acc := t.acc, cnt := t.cnt, phase := t.phase, pad := t.pad, resid := t.resid
      packQ := t.packQ, packOut := t.packOut, packClose := t.packClose, progQ := t.progQ } := by
  rcases packStep_cases s with ⟨e, _⟩ | ⟨_, _, _, _, e⟩ <;> rw [e] at h
  · cases h
    rfl
  · exact packItem_frame (s := s.consumePack) h

theorem packStep_sink {s t : State} (h : packStep s = .next t) : t.sink = s.sink := by
  rw [packStep_frame h]

@[simp] theorem State.writeCfg_sink (s : State) (c : Cfg) : (s.writeCfg c).sink = s.sink := by
  unfold State.writeCfg
  split <;> rfl

@[simp] theorem State.startRun_sink (s : State) : s.startRun.sink = s.sink := by
  unfold State.startRun
  split <;> rfl

@[simp] theorem State.writePop_sink (s : State) (op : PackOp) : (s.writePop op).sink = s.sink := by
  unfold State.writePop
  split <;> rfl

@[simp] theorem State.beginCall_sink (s : State) : s.beginCall.sink = s.sink := by
  unfold State.beginCall
  split <;> rfl

/-- No move of the host recalls a byte, not even a reset (log 15). -/
@[simp] theorem hostStep_sink (m : HostMove) (s : State) : (hostStep m s).sink = s.sink := by
  cases m with
  | writeW | writeN | writeWrap | writeEofMode | writeFill => exact State.writeCfg_sink s _
  | start => exact State.startRun_sink s
  | writePop op => exact State.writePop_sink s op
  | packStart => exact State.beginCall_sink s
  | program | input | accept | packItem | wire | reset => rfl

/-- Whichever agent moves, only the run writes the sink, and it does so by one counted byte. -/
theorem stepWith_sink {supp : Config.Support} {s t : State} (h : stepWith supp s = .next t) :
    t.sink = s.sink ∨ s.status = .run ∧ t.outcnt = s.outcnt + 1 ∧ ∃ b, t.sink = s.sink ++ [b] := by
  rcases stepWith_cases supp s with ⟨_, e⟩ | ⟨_, _, e⟩ | ⟨_, _, e⟩ | ⟨m, _, _, e⟩ <;> rw [e] at h
  · exact runStep_sink h
  · exact runStep_sink (s := s.popTurn) h
  · exact .inl (packStep_sink (s := s.popTurn) h)
  · cases h
    exact .inl (hostStep_sink m s.popTurn)

/-! ## The state after reset -/

@[simp] theorem State.reset_status : State.reset.status = .idle := rfl

/-- `FCAUSE` and `FPOS` after reset name no fault (10_state.md R43). -/
theorem State.reset_statusOk : State.reset.StatusOk := by
  unfold State.StatusOk
  decide

/-- The packer after reset has no bits gathered and no call to report (10_state.md R43). -/
theorem State.reset_packOk : State.reset.PackOk := by
  unfold State.PackOk
  decide

/-- After reset no run executes, scans or has halted: the tape, the status registers and the packer are what
there is to check. -/
theorem State.reset_inv : State.reset.Inv where
  tape := Memory.wf_unknown 0
  run := by simp [State.RunOk]
  prep := by simp [State.PrepOk]
  halt := by simp [State.HaltOk]
  status := State.reset_statusOk
  pack := State.reset_packOk

/-! ## What the host reads at the end -/

theorem State.observeFinal_of_halted {s : State} (h : s.status = .halted) :
    s.observeFinal = some (s.tape, s.ptr, s.pc, s.outcnt) := by
  simp [State.observeFinal, h]

theorem State.observeFinal_of_ne_halted {s : State} (h : s.status ≠ .halted) : s.observeFinal = none := by
  unfold State.observeFinal
  split
  · exact absurd ‹_› h
  all_goals rfl

end Machine

/-- Settles O49: the packer and the host leave the sink alone, and of the run only `.` writes it. -/
theorem sinkOnlyGrowsAndIsCounted : Obligations.SinkOnlyGrowsAndIsCounted := by
  intro s t h
  exact Machine.stepWith_sink h

/-- Settles O44: the clauses on a run are about statuses other than `IDLE`, the others hold of the values
reset loads. -/
theorem invariantHoldsAtReset : Obligations.InvariantHoldsAtReset := Machine.State.reset_inv

/-- Settles O50: the tape left is the unknown one of the occasion; every other value is the definition's. -/
theorem resetLeavesTheResetState : Obligations.ResetLeavesTheResetState :=
  ⟨fun s => ⟨Machine.Memory.unknown s.tick, rfl⟩, ⟨Machine.Memory.unknown 0, rfl⟩, rfl⟩

/-- Settles O54: the final state is read by a match on `STATUS` that answers in `HALTED` alone. -/
theorem finalStateIsReadableOnlyInHalted : Obligations.FinalStateIsReadableOnlyInHalted := by
  intro s
  exact ⟨Machine.State.observeFinal_of_halted, Machine.State.observeFinal_of_ne_halted⟩

end Sys2Proof
end

section
/-! PROOFS (20_memory.md R61, R67, R69, R71, R74, R76). What a step of the packer adds to its streams and when
it fails, what each instruction writes, and that a sound state has a next one. -/

namespace Sys2Proof
namespace Machine

/-! ## The packer's streams -/

/-- The packer's streams from `s` to `t`: the connection as it was, the output stream longer or the same, and
so the program port, which stays as it is where the packer does not feed it (log 12). -/
def State.StreamsGrow (s t : State) : Prop :=
  t.wired = s.wired ∧ s.packOut <+: t.packOut ∧ s.progQ <+: t.progQ ∧ (s.wired = false → t.progQ = s.progQ)

theorem State.StreamsGrow.refl (s : State) : s.StreamsGrow s :=
  ⟨rfl, List.prefix_rfl, List.prefix_rfl, fun _ => rfl⟩

theorem State.StreamsGrow.trans {s t u : State} (h : s.StreamsGrow t) (h' : t.StreamsGrow u) :
    s.StreamsGrow u := by
  obtain ⟨hw, ho, hp, hk⟩ := h
  obtain ⟨hw', ho', hp', hk'⟩ := h'
  exact ⟨hw'.trans hw, ho.trans ho', hp.trans hp', fun hf => (hk' (hw.trans hf)).trans (hk hf)⟩

/-- The group's registers are no stream. -/
theorem State.StreamsGrow.setGroup {s t : State} (h : s.StreamsGrow t) (acc cnt : Nat) :
    s.StreamsGrow (t.setGroup acc cnt) := h

/-- The phase is no stream. -/
theorem State.StreamsGrow.setPhase {s t : State} (h : s.StreamsGrow t) (v : Phase) :
    s.StreamsGrow (t.setPhase v) := h

theorem State.emit_streamsGrow (s : State) (x : PackOut) : s.StreamsGrow (s.emit x) := by
  refine ⟨rfl, List.prefix_append .., ?_⟩
  rcases emit_progQ s x with e | ⟨hw, _, _, e⟩ <;> rw [e]
  · exact ⟨List.prefix_rfl, fun _ => rfl⟩
  · exact ⟨List.prefix_append .., by simp [hw]⟩

theorem State.closeOut_streamsGrow (s : State) (how : Close) : s.StreamsGrow (s.closeOut how) := by
  refine ⟨rfl, List.prefix_rfl, ?_⟩
  rcases closeOut_progQ s how with e | ⟨hw, _, e⟩ <;> rw [e]
  · exact ⟨List.prefix_rfl, fun _ => rfl⟩
  · exact ⟨List.prefix_append .., by simp [hw]⟩

theorem State.emitAll_bits_streamsGrow (s : State) (xs : List Bit) : s.StreamsGrow (s.emitAll (xs.map .bit)) := by
  rw [emitAll_bits]
  exact ⟨rfl, List.prefix_append .., List.prefix_rfl, fun _ => rfl⟩

theorem State.takeBit_streamsGrow (s : State) (k : Nat) (item : Nat → PackOut) (b : Bit) :
    s.StreamsGrow (s.takeBit k item b) := by
  unfold State.takeBit
  split
  · exact (s.emit_streamsGrow _).setGroup 0 0
  · exact (State.StreamsGrow.refl s).setGroup ..

theorem State.endB2i_streamsGrow (s : State) : s.StreamsGrow s.endB2i := by
  unfold State.endB2i
  split
  · exact (s.closeOut_streamsGrow .fin).setPhase .done
  · exact (State.closeOut_streamsGrow { s with resid := s.cnt } .abort).setPhase .failed

theorem State.endB2y_streamsGrow (s : State) : s.StreamsGrow s.endB2y := by
  unfold State.endB2y
  split
  · have hemit : s.StreamsGrow ({ s with pad := true }.emit (groupByte (s.acc * 2 ^ (8 - s.cnt)))) :=
      State.emit_streamsGrow { s with pad := true } _
    exact ((hemit.setGroup 0 0).trans (State.closeOut_streamsGrow _ .fin)).setPhase .done
  · exact (s.closeOut_streamsGrow .fin).setPhase .done

/-- What the packer does with an item only adds to the streams (40_packer.md R131, 10_state.md R40). -/
theorem packItem_streamsGrow {s t : State} {x : PackItem} (h : packItem s x = .next t) : s.StreamsGrow t := by
  unfold packItem at h
  split at h <;> cases h
  case h_1 | h_5 => exact s.takeBit_streamsGrow ..
  case h_2 => exact s.endB2i_streamsGrow
  case h_6 => exact s.endB2y_streamsGrow
  case h_3 | h_7 => exact s.emitAll_bits_streamsGrow _
  case h_4 | h_8 => exact (s.closeOut_streamsGrow .fin).setPhase .done

theorem packStep_streamsGrow {s t : State} (h : packStep s = .next t) : s.StreamsGrow t := by
  rcases packStep_cases s with ⟨e, _⟩ | ⟨_, _, _, _, e⟩ <;> rw [e] at h
  · cases h
    exact .refl s
  · exact packItem_streamsGrow (s := s.consumePack) h

/-! ## The packer's failure -/

@[simp] theorem State.takeBit_phase (s : State) (k : Nat) (item : Nat → PackOut) (b : Bit) :
    (s.takeBit k item b).phase = s.phase := by
  unfold State.takeBit
  split <;> rfl

@[simp] theorem State.endB2y_phase (s : State) : s.endB2y.phase = .done := by
  unfold State.endB2y
  split <;> rfl

/-- `B2I` fails at its end on a short group only, and reports its bits (40_packer.md R114). -/
theorem State.endB2i_failed {s : State} (h : s.endB2i.phase = .failed) :
    s.cnt ≠ 0 ∧ s.endB2i.resid = s.cnt := by
  unfold State.endB2i at h ⊢
  split at h
  · cases h
  · rename_i hc
    rw [if_neg hc]
    exact ⟨hc, rfl⟩

/-- The one item on which a call fails is the end of `B2I` (60_exceptions.md R231). -/
theorem packItem_failed {s t : State} {x : PackItem} (h : packItem s x = .next t) (ht : t.phase = .failed) :
    s.phase = .failed ∨ (s.pop = .b2i ∧ s.cnt ≠ 0 ∧ t.resid = s.cnt) := by
  unfold packItem at h
  split at h <;> cases h
  case h_2 hp => exact .inr ⟨hp, State.endB2i_failed ht⟩
  case h_1 | h_5 => exact .inl (by simpa using ht)
  case h_3 | h_7 => rw [emitAll_bits] at ht; exact .inl ht
  case h_6 => simp at ht
  case h_4 | h_8 => cases ht

theorem packStep_failed {s t : State} (h : packStep s = .next t) (ht : t.phase = .failed) :
    s.phase = .failed ∨ (s.pop = .b2i ∧ s.cnt ≠ 0 ∧ t.resid = s.cnt) := by
  rcases packStep_cases s with ⟨e, _⟩ | ⟨_, _, _, _, e⟩ <;> rw [e] at h
  · cases h
    exact .inl ht
  · exact packItem_failed (s := s.consumePack) h ht

/-! ## What the instructions write -/

/-- No instruction writes the program, the configuration, the packer, the program port or the turns
(20_memory.md R61, R74). -/
theorem exec_frame {i : Instr} {s t : State} (h : exec i s = .next t) :
    t = { s with
      pc := t.pc, ptr := t.ptr, tape := t.tape, outcnt := t.outcnt, ineof := t.ineof
      inQ := t.inQ, sink := t.sink, credit := t.credit
      jt := t.jt, scan := t.scan, bstack := t.bstack
      status := t.status, fcause := t.fcause, fpos := t.fpos, tick := t.tick } := by
  rcases exec_cases h with ⟨_, _, _, rfl⟩ | ⟨_, rfl⟩ | ⟨_, _, _, rfl⟩ | ⟨_, rfl⟩ | ⟨_, _, rfl⟩ | ⟨_, rfl⟩ |
    ⟨_, rfl | rfl⟩ | ⟨_, _, _, _, rfl | rfl | rfl, rfl⟩ | ⟨_, rfl | rfl⟩
  all_goals rfl

/-- The write sets of the instructions, where no fault is raised: the move, the cell arithmetic, the output,
the input and the brackets. -/
theorem exec_writes {i : Instr} {s t : State} (h : exec i s = .next t) (ht : t.status = .run) :
    ((i = .right ∨ i = .left) ∧ t = { s with pc := t.pc, ptr := t.ptr }) ∨
    ((i = .inc ∨ i = .dec) ∧ ∃ v, t = { s with pc := t.pc, tape := s.tape.write s.ptr v }) ∨
    (i = .out ∧ t = { s with pc := t.pc, sink := t.sink, outcnt := t.outcnt, credit := t.credit }) ∨
    (i = .in_ ∧ t = { s with pc := t.pc, tape := t.tape, inQ := t.inQ, ineof := t.ineof } ∧
      (t.tape = s.tape ∨ ∃ v, t.tape = s.tape.write s.ptr v)) ∨
    ((i = .open_ ∨ i = .close) ∧ t = { s with pc := t.pc }) := by
  rcases exec_cases h with ⟨hi, _, _, rfl⟩ | ⟨_, rfl⟩ | ⟨hi, _, _, rfl⟩ | ⟨hi, rfl⟩ | ⟨hi, _, rfl⟩ | ⟨hi, rfl⟩ |
    ⟨hi, rfl | rfl⟩ | ⟨hi, _, _, _, rfl | rfl | rfl, rfl⟩ | ⟨hi, rfl | rfl⟩
  · exact .inl ⟨hi, rfl⟩
  · cases ht
  · exact .inr (.inl ⟨hi, _, rfl⟩)
  -- The wait and the delivery of `.`.
  iterate 2 exact .inr (.inr (.inl ⟨hi, rfl⟩))
  -- The wait of `,` and the end of input that keeps the cell.
  iterate 3 exact .inr (.inr (.inr (.inl ⟨hi, rfl, .inl rfl⟩)))
  -- The stores of `,`.
  iterate 3 exact .inr (.inr (.inr (.inl ⟨hi, rfl, .inr ⟨_, rfl⟩⟩)))
  -- The brackets, falling through and jumping.
  iterate 2 exact .inr (.inr (.inr (.inr ⟨hi, rfl⟩)))

/-- Where no fault is raised the jump table, the scan, the fault registers and the counter behind the free
values stay as they are (41_jump_table.md R151, log 4). -/
theorem exec_keeps_tables {i : Instr} {s t : State} (h : exec i s = .next t) (ht : t.status = .run) :
    t.jt = s.jt ∧ t.scan = s.scan ∧ t.bstack = s.bstack ∧
      t.fcause = s.fcause ∧ t.fpos = s.fpos ∧ t.tick = s.tick := by
  rcases exec_writes h ht with ⟨_, e⟩ | ⟨_, _, e⟩ | ⟨_, e⟩ | ⟨_, e, _⟩ | ⟨_, e⟩ <;> rw [e] <;> simp

theorem exec_ptr {i : Instr} {s t : State} (h : exec i s = .next t) (ht : t.status = .run)
    (hr : i ≠ .right) (hl : i ≠ .left) : t.ptr = s.ptr := by
  rcases exec_writes h ht with ⟨hi, _⟩ | ⟨_, _, e⟩ | ⟨_, e⟩ | ⟨_, e, _⟩ | ⟨_, e⟩
  · exact (hi.elim hr hl).elim
  all_goals rw [e]

theorem exec_tape {i : Instr} {s t : State} (h : exec i s = .next t) (ht : t.status = .run)
    (hp : i ≠ .inc) (hm : i ≠ .dec) (hn : i ≠ .in_) : t.tape = s.tape := by
  rcases exec_writes h ht with ⟨_, e⟩ | ⟨hi, _⟩ | ⟨_, e⟩ | ⟨hi, _⟩ | ⟨_, e⟩
  case inr.inl => exact (hi.elim hp hm).elim
  case inr.inr.inr.inl => exact absurd hi hn
  all_goals rw [e]

theorem exec_input {i : Instr} {s t : State} (h : exec i s = .next t) (ht : t.status = .run)
    (hn : i ≠ .in_) : t.inQ = s.inQ ∧ t.ineof = s.ineof := by
  rcases exec_writes h ht with ⟨_, e⟩ | ⟨_, _, e⟩ | ⟨_, e⟩ | ⟨hi, _⟩ | ⟨_, e⟩
  case inr.inr.inr.inl => exact absurd hi hn
  all_goals rw [e]; exact ⟨rfl, rfl⟩

theorem exec_output {i : Instr} {s t : State} (h : exec i s = .next t) (ht : t.status = .run)
    (ho : i ≠ .out) : t.sink = s.sink ∧ t.outcnt = s.outcnt ∧ t.credit = s.credit := by
  rcases exec_writes h ht with ⟨_, e⟩ | ⟨_, _, e⟩ | ⟨hi, _⟩ | ⟨_, e, _⟩ | ⟨_, e⟩
  case inr.inr.inl => exact absurd hi ho
  all_goals rw [e]; exact ⟨rfl, rfl, rfl⟩

/-- The tape after an instruction is as it was but for one write, at the current cell (20_memory.md R71). -/
theorem exec_tape_cases {i : Instr} {s t : State} (h : exec i s = .next t) (ht : t.status = .run) :
    t.tape = s.tape ∨ ∃ v, t.tape = s.tape.write s.ptr v := by
  rcases exec_writes h ht with ⟨_, e⟩ | ⟨_, v, e⟩ | ⟨_, e⟩ | ⟨_, _, hw⟩ | ⟨_, e⟩
  case inr.inl => exact .inr ⟨v, by rw [e]⟩
  case inr.inr.inr.inl => exact hw
  all_goals exact .inl (by rw [e])

theorem exec_read_of_ne_ptr {i : Instr} {s t : State} (h : exec i s = .next t) (ht : t.status = .run)
    (hwf : s.tape.wf) {k : Int} (hk : k ≠ s.ptr) : t.tape.read k = s.tape.read k := by
  rcases exec_tape_cases h ht with e | ⟨v, e⟩ <;> rw [e]
  rw [Memory.read_write hwf, if_neg hk.symm]

/-! ## A sound state has a next one -/

theorem movePointer_next (d : Int) (s : State) : ∃ t, movePointer d s = .next t := by
  rcases movePointer_cases d s with ⟨_, _, e⟩ | ⟨_, e⟩ <;> exact ⟨_, e⟩

theorem storeInput_next {s : State} (h : validIndex s.cfg s.ptr = true) (v : Int) :
    ∃ t, storeInput s v = .next t :=
  ⟨_, withCell_of_valid h _⟩

/-- Taking an input item moves neither the pointer nor the configuration. -/
theorem takeInput_keeps {s u : State} {x : InItem} (h : takeInput s = some (x, u)) :
    u.cfg = s.cfg ∧ u.ptr = s.ptr := by
  rcases takeInput_cases s with ⟨_, e⟩ | ⟨_, _, e⟩ | ⟨_, _, _, _, e⟩ <;> rw [e] at h <;> cases h
  · exact ⟨rfl, rfl⟩
  · exact ⟨rfl, rfl⟩

theorem execOut_next {s : State} (h : validIndex s.cfg s.ptr = true) : ∃ t, execOut s = .next t := by
  unfold execOut
  rw [withCell_of_valid h]
  split <;> exact ⟨_, rfl⟩

theorem execIn_next {s : State} (h : validIndex s.cfg s.ptr = true) : ∃ t, execIn s = .next t := by
  have valid : ∀ {x u}, takeInput s = some (x, u) → validIndex u.cfg u.ptr = true := by
    intro x u hu
    obtain ⟨hc, hp⟩ := takeInput_keeps hu
    rwa [hc, hp]
  unfold execIn
  split
  · exact ⟨_, rfl⟩
  · exact storeInput_next (valid ‹_›) _
  · split
    · rename_i u hu _ _
      exact storeInput_next (s := u.latchEof) (valid (u := u) hu) _
    · exact ⟨_, rfl⟩

/-- With the pointer in range every instruction answers a next state (20_memory.md R69). -/
theorem exec_next {s : State} (h : validIndex s.cfg s.ptr = true) (i : Instr) : ∃ t, exec i s = .next t := by
  cases i with
  | right => exact movePointer_next 1 s
  | left => exact movePointer_next (-1) s
  | inc => exact ⟨_, addToCell_of_valid h 1⟩
  | dec => exact ⟨_, addToCell_of_valid h (-1)⟩
  | out => exact execOut_next h
  | in_ => exact execIn_next h
  | open_ => exact ⟨_, withCell_of_valid h fun v => .next (branch (cellIsZero v) s)⟩
  | close => exact ⟨_, withCell_of_valid h fun v => .next (branch (!cellIsZero v) s)⟩

theorem execStep_next {s : State} (h : validIndex s.cfg s.ptr = true) : ∃ t, execStep s = .next t := by
  unfold execStep
  split
  · exact exec_next h _
  · exact ⟨_, rfl⟩

/-- The run stops the model in no phase: in `RUN` the pointer is in range, the other phases stop in no state. -/
theorem runStep_next (supp : Config.Support) {s : State} (h : s.RunOk) : ∃ t, runStep supp s = .next t := by
  unfold runStep
  split
  case h_4 hs =>
    obtain ⟨_, hptr, _⟩ := h hs
    exact execStep_next hptr
  all_goals exact ⟨_, rfl⟩

/-- The packer stops the model only where an item of another type than its port's is before it (log 13). -/
theorem packStep_next {s : State}
    (h : ∀ x r, s.packQ = x :: r → s.phase = .busy → packItemWellFormed s.pop x = true) :
    ∃ t, packStep s = .next t := by
  rcases packStep_cases s with ⟨e, _⟩ | ⟨x, r, hb, hq, e⟩ <;> rw [e]
  · exact ⟨_, rfl⟩
  · exact packItem_next (s := s.consumePack) (h x r hq hb)

end Machine

/-- Settles O13: the frame, the growth of the streams and the one failing item, each by what a step of the
packer can do with the item before it. -/
theorem packerStepFrame : Obligations.PackerStepFrame := by
  intro s t h
  obtain ⟨_, hout, hprog, hkeep⟩ := Machine.packStep_streamsGrow h
  exact ⟨Machine.packStep_frame h, hout, hprog, hkeep, Machine.packStep_failed h⟩

/-- Settles O42: only a fault writes the table, the scan and the fault registers, and it leaves `RUN`. -/
theorem instructionsLeaveProgramAndUnitsAlone : Obligations.InstructionsLeaveProgramAndUnitsAlone := by
  intro i s t h
  exact ⟨Machine.exec_frame h, fun _ ht => Machine.exec_keeps_tables h ht⟩

/-- Settles O43: each clause is read off the write sets of the instructions. -/
theorem eachInstructionWritesOnlyItsOwn : Obligations.EachInstructionWritesOnlyItsOwn := by
  intro i s t _ h ht
  exact ⟨Machine.exec_ptr h ht, Machine.exec_tape h ht, Machine.exec_input h ht, Machine.exec_output h ht,
    fun hwf _ hk => Machine.exec_read_of_ne_ptr h ht hwf hk⟩

/-- Settles O46: the run stops only at a pointer out of range, which the invariant excludes; the packer only
at an item of another type, which the premise excludes; the host never. -/
theorem soundStatesNeverStop : Obligations.SoundStatesNeverStop := by
  intro s hinv hpack
  unfold Machine.step
  rcases Machine.stepWith_cases Config.supported s with ⟨_, e⟩ | ⟨_, _, e⟩ | ⟨ts, hts, e⟩ | ⟨_, _, _, e⟩ <;> rw [e]
  · exact Machine.runStep_next _ hinv.run
  · exact Machine.runStep_next (s := s.popTurn) _ hinv.run
  · exact Machine.packStep_next (s := s.popTurn) fun x r => hpack x r ts hts
  · exact ⟨_, rfl⟩

end Sys2Proof
end

section
/-! PROOFS (30_encoding.md R91, R96, R100). The encoder and the decoder undo each other, an instruction at a
time, a code at a time, and over whole programs and bit sequences. -/

namespace Sys2Proof

/-! ## Instructions, codes and table words -/

@[simp] theorem decode_encode (i : Instr) : decode (encode i) = i := by cases i <;> rfl

@[simp] theorem encode_decode (c : Code) : encode (decode c) = c := by revert c; decide

@[simp] theorem encodeProgram_length (p : List Instr) : (encodeProgram p).length = p.length := List.length_map ..

@[simp] theorem encodeProgram_getElem? (p : List Instr) (i : Nat) :
    (encodeProgram p)[i]? = p[i]?.map encode := List.getElem?_map ..

@[simp] theorem map_decode_encodeProgram (p : List Instr) : (encodeProgram p).map decode = p := by
  simp [encodeProgram, Function.comp_def]

@[simp] theorem encodeProgram_map_decode (c : List Code) : encodeProgram (c.map decode) = c := by
  simp [encodeProgram, Function.comp_def]

/-- The words that are no instruction are those with too few bits or a value above 7 (30_encoding.md R91). -/
theorem decodeTableWord_eq_none_iff {nbits w : Nat} :
    decodeTableWord nbits w = none ↔ nbits < 3 ∨ 8 ≤ w := by
  unfold decodeTableWord decodeWord
  by_cases hn : nbits < 3
  · simp [hn]
  · by_cases hw : w < 8
    · simp [hn, hw]
    · simp [hn, hw, Nat.le_of_not_lt hw]

namespace Machine

/-! ## The bits of a code (40_packer.md R118) -/

@[simp] theorem codeBits_length (c : Code) : (codeBits c).length = 3 := rfl

/-- A code's value, read off its bits, the first one most significant. -/
theorem toNat_eq_bits (c : Code) :
    c.toNat = 4 * (c.getLsbD 2).toNat + 2 * (c.getLsbD 1).toNat + (c.getLsbD 0).toNat := by
  revert c; decide

theorem exists_codeBits_eq (a b d : Bit) : ∃ c : Code, codeBits c = [a, b, d] := by
  revert a b d; decide

theorem bitAt_of_getElem? {s : List Bit} {k : Nat} {b : Bit} (h : s[k]? = some b) : bitAt s k = b.toNat := by
  simp [bitAt, h]

/-! ## `I2B` and `B2I` as functions (40_packer.md R112, R117) -/

@[simp] theorem i2b_nil : i2b [] = [] := rfl

@[simp] theorem i2b_cons (c : Code) (cs : List Code) : i2b (c :: cs) = codeBits c ++ i2b cs := rfl

@[simp] theorem i2b_length (c : List Code) : (i2b c).length = 3 * c.length := by
  induction c with
  | nil => rfl
  | cons c cs ih =>
    rw [i2b_cons, List.length_append, codeBits_length, ih, List.length_cons]
    omega

/-- Three bits a position: bit `j` of the code at position `i` stands at `3i + j` (30_encoding.md R96). -/
theorem i2b_getElem? {l : List Code} {i j : Nat} {x : Code} (hj : j < 3) (hx : l[i]? = some x) :
    (i2b l)[3 * i + j]? = (codeBits x)[j]? := by
  induction l generalizing i with
  | nil => simp at hx
  | cons c cs ih =>
    cases i with
    | zero =>
      obtain rfl : c = x := by simpa using hx
      rw [i2b_cons, Nat.mul_zero, Nat.zero_add, List.getElem?_append_left hj]
    | succ i =>
      have hle : (codeBits c).length ≤ 3 * (i + 1) + j := by rw [codeBits_length]; omega
      have hsub : 3 * (i + 1) + j - 3 = 3 * i + j := by omega
      rw [i2b_cons, List.getElem?_append_right hle, codeBits_length, hsub]
      exact ih (by simpa using hx)

/-- The value of the code at position `i`, read off the bit sequence at `3i` (30_encoding.md R96). -/
theorem toNat_eq_bitAt_i2b {l : List Code} {i : Nat} {x : Code} (hx : l[i]? = some x) :
    x.toNat = 4 * bitAt (i2b l) (3 * i) + 2 * bitAt (i2b l) (3 * i + 1) + bitAt (i2b l) (3 * i + 2) := by
  have h0 : bitAt (i2b l) (3 * i) = (x.getLsbD 2).toNat :=
    bitAt_of_getElem? (i2b_getElem? (j := 0) (by decide) hx)
  have h1 : bitAt (i2b l) (3 * i + 1) = (x.getLsbD 1).toNat :=
    bitAt_of_getElem? (i2b_getElem? (by decide) hx)
  have h2 : bitAt (i2b l) (3 * i + 2) = (x.getLsbD 0).toNat :=
    bitAt_of_getElem? (i2b_getElem? (by decide) hx)
  rw [h0, h1, h2]
  exact toNat_eq_bits x

@[simp] theorem b2i_i2b (l : List Code) : b2i (i2b l) = .ok l := by
  have hcodes : (List.range l.length).map (fun g => BitVec.ofNat 3
      (4 * bitAt (i2b l) (3 * g) + 2 * bitAt (i2b l) (3 * g + 1) + bitAt (i2b l) (3 * g + 2))) = l := by
    refine List.ext_getElem (by simp) fun g _ hg => ?_
    rw [List.getElem_map, List.getElem_range, ← toNat_eq_bitAt_i2b (List.getElem?_eq_getElem hg),
      BitVec.ofNat_toNat, BitVec.setWidth_eq]
  simp [b2i, hcodes]

/-- Every bit sequence of length `3L` is the bits of `L` codes. -/
theorem exists_i2b_eq {s : List Bit} {L : Nat} (h : s.length = 3 * L) :
    ∃ c : List Code, c.length = L ∧ i2b c = s := by
  induction L generalizing s with
  | zero => exact ⟨[], rfl, (List.length_eq_zero_iff.mp h).symm⟩
  | succ L ih =>
    match s, h with
    | a :: b :: d :: s, h =>
      obtain ⟨x, hx⟩ := exists_codeBits_eq a b d
      obtain ⟨c, hc, rfl⟩ := ih (s := s) (by simp only [List.length_cons] at h; omega)
      exact ⟨x :: c, by simp [hc], by simp [hx]⟩

@[simp] theorem decodeBits_i2b_encodeProgram (p : List Instr) : decodeBits (i2b (encodeProgram p)) = .ok p := by
  simp [decodeBits, Except.map]

end Machine

/-- Settles O2: forwards the code at each position puts its three bits in place; backwards a bit sequence of
length `3L` is the bits of `L` codes, and the program is what these decode to. -/
theorem programsAndBitSequencesAgree : Obligations.ProgramsAndBitSequencesAgree := by
  constructor
  · intro p
    refine ⟨Machine.decodeBits_i2b_encodeProgram p, by simp, fun i x hx => ?_⟩
    have hcode : (encodeProgram p)[i]? = some (encode x) := by simp [hx]
    exact ⟨Machine.i2b_getElem? (j := 0) (by decide) hcode, Machine.i2b_getElem? (by decide) hcode,
      Machine.i2b_getElem? (by decide) hcode⟩
  · intro s L h
    obtain ⟨c, rfl, rfl⟩ := Machine.exists_i2b_eq h
    obtain ⟨p, rfl⟩ : ∃ p, encodeProgram p = c := ⟨_, encodeProgram_map_decode c⟩
    exact ⟨p, by simp, by simp, rfl, fun i x hx => Machine.toNat_eq_bitAt_i2b (by simp [hx])⟩

/-- Settles O1: the eight symbols by computation, the other words by what the word decoder rejects. -/
theorem symbolCodesAreTableIndices : Obligations.SymbolCodesAreTableIndices :=
  ⟨by decide, by decide, by decide, fun _ _ h => decodeTableWord_eq_none_iff.mpr h.symm⟩

end Sys2Proof
end

section
/-! PROOFS (40_packer.md R121, R128, R129, R130). The byte codec: every bit sequence is the bits of whole
bytes and a short last group, and `B2Y` takes the two apart. -/

namespace Sys2Proof
namespace Machine

/-! ## Bit sequences as whole groups and a rest -/

/-- Every bit sequence is whole groups of `k` bits, each the bits of one item, and fewer than `k` bits more. -/
theorem exists_flatMap_append {α : Type} {f : α → List Bit} {k : Nat} (hk : 0 < k)
    (hf : ∀ l : List Bit, l.length = k → ∃ a, f a = l) (s : List Bit) :
    ∃ (as : List α) (r : List Bit), s = as.flatMap f ++ r ∧ r.length < k := by
  by_cases hs : s.length < k
  · exact ⟨[], s, rfl, hs⟩
  · have hrest : (s.drop k).length < s.length := by rw [List.length_drop]; omega
    obtain ⟨a, ha⟩ := hf (s.take k) (by rw [List.length_take]; omega)
    obtain ⟨as, r, e, hr⟩ := exists_flatMap_append hk hf (s.drop k)
    refine ⟨a :: as, r, ?_, hr⟩
    rw [List.flatMap_cons, List.append_assoc, ← e, ha, List.take_append_drop]
termination_by s.length

theorem bitAt_append_left {a s : List Bit} {k : Nat} (h : k < a.length) : bitAt (a ++ s) k = bitAt a k := by
  simp [bitAt, List.getElem?_append_left h]

theorem bitAt_append_right (a s : List Bit) (k : Nat) : bitAt (a ++ s) (a.length + k) = bitAt s k := by
  simp [bitAt, List.getElem?_append_right]

/-- A position past the end reads 0, as padding does (40_packer.md R121). -/
theorem bitAt_append_zeros (s : List Bit) (m k : Nat) : bitAt (s ++ List.replicate m false) k = bitAt s k := by
  rcases Nat.lt_or_ge k s.length with h | h
  · exact bitAt_append_left h
  · obtain ⟨i, rfl⟩ := Nat.exists_eq_add_of_le h
    have hpast : bitAt s (s.length + i) = 0 := by simp [bitAt]
    rw [bitAt_append_right, hpast]
    by_cases hi : i < m <;> simp [bitAt, hi]

/-! ## The bits of a byte (40_packer.md R129) -/

@[simp] theorem byteBits_length (v : Byte) : (byteBits v).length = 8 := rfl

/-- A byte's value, read off its bits, the first one most significant. -/
theorem byte_toNat_eq_bits (v : Byte) : v.toNat =
    128 * (v.getLsbD 7).toNat + 64 * (v.getLsbD 6).toNat + 32 * (v.getLsbD 5).toNat + 16 * (v.getLsbD 4).toNat +
    8 * (v.getLsbD 3).toNat + 4 * (v.getLsbD 2).toNat + 2 * (v.getLsbD 1).toNat + (v.getLsbD 0).toNat := by
  have hv := v.isLt
  simp only [BitVec.getLsbD, Nat.toNat_testBit]
  omega

theorem exists_byteBits_eq {l : List Bit} (h : l.length = 8) : ∃ v : Byte, byteBits v = l := by
  refine ⟨(BitVec.ofBoolListBE l).cast h, List.ext_getElem (by simp [h]) fun j hj hl => ?_⟩
  rw [byteBits_length] at hj
  have hrev : 7 - (7 - j) = j := by omega
  have hlt : 7 - j < 8 := by omega
  simp [byteBits, h, hrev, hlt, List.getElem?_eq_getElem hl]

/-! ## `B2Y` and `Y2B` as functions (40_packer.md R121, R128) -/

@[simp] theorem y2b_cons (v : Byte) (y : List Byte) : y2b (v :: y) = byteBits v ++ y2b y := rfl

theorem y2b_append (y z : List Byte) : y2b (y ++ z) = y2b y ++ y2b z := List.flatMap_append

@[simp] theorem y2b_length (y : List Byte) : (y2b y).length = 8 * y.length := by
  induction y with
  | nil => rfl
  | cons v y ih =>
    rw [y2b_cons, List.length_append, byteBits_length, ih, List.length_cons]
    omega

/-- The byte of a group depends on the bits of that group only. -/
theorem byteAt_congr {s t : List Bit} {g h : Nat} (e : ∀ j < 8, bitAt s (8 * g + j) = bitAt t (8 * h + j)) :
    byteAt s g = byteAt t h := by
  unfold byteAt
  congr 2
  exact List.map_congr_left fun j hj => by rw [e j (List.mem_range.mp hj)]

theorem byteAt_byteBits (v : Byte) : byteAt (byteBits v) 0 = v := by
  have hsum : ((List.range 8).map fun j => bitAt (byteBits v) (8 * 0 + j) * 2 ^ (7 - j)).sum = v.toNat := by
    simp [byteBits, bitAt, List.range_succ, byte_toNat_eq_bits v]
    omega
  rw [byteAt, hsum, BitVec.ofNat_toNat, BitVec.setWidth_eq]

theorem byteAt_byteBits_append_zero (v : Byte) (s : List Bit) : byteAt (byteBits v ++ s) 0 = v :=
  (byteAt_congr fun j hj => bitAt_append_left (by rw [byteBits_length]; omega)).trans (byteAt_byteBits v)

theorem byteAt_byteBits_append_succ (v : Byte) (s : List Bit) (g : Nat) :
    byteAt (byteBits v ++ s) (g + 1) = byteAt s g :=
  byteAt_congr fun j _ => by
    rw [← bitAt_append_right (byteBits v) s, byteBits_length]
    congr 1
    omega

/-- A short group is padded on the right with zero bits. -/
theorem byteBits_byteAt {r : List Bit} (h : r.length < 8) :
    byteBits (byteAt r 0) = r ++ List.replicate (8 - r.length) false := by
  obtain ⟨v, hv⟩ := exists_byteBits_eq (l := r ++ List.replicate (8 - r.length) false) (by simp; omega)
  have e : byteAt r 0 = byteAt (byteBits v) 0 := byteAt_congr fun j _ => by rw [hv, bitAt_append_zeros]
  rw [e, byteAt_byteBits, hv]

theorem b2y_byteBits_append (v : Byte) (s : List Bit) :
    b2y (byteBits v ++ s) = (v :: (b2y s).1, (b2y s).2) := by
  have hgroups : (8 + s.length + 7) / 8 = (s.length + 7) / 8 + 1 := by omega
  have hrest : (8 + s.length) % 8 = s.length % 8 := by omega
  simp [b2y, hgroups, hrest, List.range_succ_eq_map, Function.comp_def, byteAt_byteBits_append_zero,
    byteAt_byteBits_append_succ]

/-- The whole bytes of a sequence come out first; what is left decides the rest and the diagnostic. -/
theorem b2y_y2b_append (y : List Byte) (r : List Bit) : b2y (y2b y ++ r) = (y ++ (b2y r).1, (b2y r).2) := by
  induction y with
  | nil => rfl
  | cons v y ih => rw [y2b_cons, List.append_assoc, b2y_byteBits_append, ih]; rfl

@[simp] theorem b2y_y2b (y : List Byte) : b2y (y2b y) = (y, false) := by
  simpa [b2y] using b2y_y2b_append y []

/-- A short group is one byte, and reported. -/
theorem b2y_short {r : List Bit} (hne : r ≠ []) (h : r.length < 8) : b2y r = ([byteAt r 0], true) := by
  have hpos : 0 < r.length := List.length_pos_iff.mpr hne
  have hgroups : (r.length + 7) / 8 = 1 := by omega
  simp [b2y, hgroups, Nat.mod_eq_of_lt h, hpos]

theorem exists_y2b_append (s : List Bit) : ∃ (y : List Byte) (r : List Bit), s = y2b y ++ r ∧ r.length < 8 :=
  exists_flatMap_append (by decide) (fun _ => exists_byteBits_eq) s

end Machine

/-- Settles O3: whole bytes come back by themselves; a short last group becomes the one byte whose bits are that
group and its padding. -/
theorem byteCodecRoundTrips : Obligations.ByteCodecRoundTrips := by
  refine ⟨Machine.b2y_y2b, fun s h => ?_, fun s h => ?_⟩ <;> obtain ⟨y, r, rfl, hr⟩ := Machine.exists_y2b_append s
  · obtain rfl : r = [] := List.length_eq_zero_iff.mp (by simp at h; omega)
    simp
  · have hlen : (Machine.y2b y ++ r).length % 8 = r.length := by simp; omega
    have hne : r ≠ [] := fun e => h (by rw [hlen, e]; rfl)
    have hbits : Machine.y2b [Machine.byteAt r 0] = r ++ List.replicate (8 - r.length) false := by
      simp [Machine.y2b, Machine.byteBits_byteAt hr]
    rw [hlen, Machine.b2y_y2b_append, Machine.b2y_short hne hr]
    exact ⟨by rw [Machine.y2b_append, hbits, List.append_assoc], rfl⟩

end Sys2Proof
end

section
/-! PROOFS (40_packer.md R110, R111, R113, R114, R118, R123, R125, R129). What each operation of the packer does
with an item and at the end, as the whole state after the step, and the start of a call. -/

namespace Sys2Proof
namespace Machine

/-! ## The four operations -/

/-- What the operation `op` does: an item of its port's type takes the packer on by `act`, `end` by `last`. An
item never ends the call. -/
structure PackOp.Does {α : Type} (op : PackOp) (port : α → PackItem) (act : State → α → State)
    (last : State → State) : Prop where
  /-- The step on an item. -/
  item : ∀ (s : State) (a : α), s.pop = op → packItem s (port a) = .next (act s a)
  /-- The step on `end`. -/
  fin : ∀ s : State, s.pop = op → packItem s .fin = .next (last s)
  /-- The call goes on after an item. -/
  phase : ∀ (s : State) (a : α), (act s a).phase = s.phase

theorem b2i_does : PackOp.b2i.Does .bit (fun s b => s.takeBit 3 groupCode b) State.endB2i where
  item s _ h := by simp [packItem, h]
  fin s h := by simp [packItem, h]
  phase s b := s.takeBit_phase 3 groupCode b

theorem b2y_does : PackOp.b2y.Does .bit (fun s b => s.takeBit 8 groupByte b) State.endB2y where
  item s _ h := by simp [packItem, h]
  fin s h := by simp [packItem, h]
  phase s b := s.takeBit_phase 8 groupByte b

theorem i2b_does : PackOp.i2b.Does .code (fun s c => s.emitAll ((codeBits c).map .bit))
    (fun s => (s.closeOut .fin).setPhase .done) where
  item s _ h := by simp [packItem, h]
  fin s h := by simp [packItem, h]
  phase s _ := by rw [emitAll_bits]

theorem y2b_does : PackOp.y2b.Does .byte (fun s v => s.emitAll ((byteBits v).map .bit))
    (fun s => (s.closeOut .fin).setPhase .done) where
  item s _ h := by simp [packItem, h]
  fin s h := by simp [packItem, h]
  phase s _ := by rw [emitAll_bits]

/-! ## The steps of a call in progress -/

section Step

variable {s : State}

/-- During a call the packer consumes the item before it (40_packer.md R132). -/
theorem packStep_of_busy {x : PackItem} {r : List PackItem} (hb : s.phase = .busy) (hq : s.packQ = x :: r) :
    packStep s = packItem { s with packQ := r } x := by
  simp [packStep, State.consumePack, hb, hq]

section Does

variable {α : Type} {op : PackOp} {port : α → PackItem} {act : State → α → State} {last : State → State}
  {r : List PackItem}

theorem PackOp.Does.packStep_item (d : op.Does port act last) {a : α} (hb : s.phase = .busy) (hp : s.pop = op)
    (hq : s.packQ = port a :: r) : packStep s = .next (act { s with packQ := r } a) :=
  (packStep_of_busy hb hq).trans (d.item _ a hp)

theorem PackOp.Does.packStep_fin (d : op.Does port act last) (hb : s.phase = .busy) (hp : s.pop = op)
    (hq : s.packQ = .fin :: r) : packStep s = .next (last { s with packQ := r }) :=
  (packStep_of_busy hb hq).trans (d.fin _ hp)

end Does

/-- The bit that completes a group (40_packer.md R113, R123). -/
theorem State.takeBit_full {k : Nat} (item : Nat → PackOut) (b : Bit) (h : s.cnt + 1 = k) :
    s.takeBit k item b = (s.emit (item (2 * s.acc + b.toNat))).setGroup 0 0 := if_pos h

theorem State.takeBit_short {k : Nat} (item : Nat → PackOut) (b : Bit) (h : s.cnt + 1 ≠ k) :
    s.takeBit k item b = s.setGroup (2 * s.acc + b.toNat) (s.cnt + 1) := if_neg h

/-- `B2I` at `end` on a group boundary (40_packer.md R114). -/
theorem State.endB2i_boundary (h : s.cnt = 0) : s.endB2i = (s.closeOut .fin).setPhase .done := if_pos h

theorem State.endB2i_short (h : s.cnt ≠ 0) :
    s.endB2i = ({ s with resid := s.cnt }.closeOut .abort).setPhase .failed := if_neg h

/-- `B2Y` at `end` on a group boundary (40_packer.md R125). -/
theorem State.endB2y_boundary (h : s.cnt = 0) : s.endB2y = (s.closeOut .fin).setPhase .done :=
  if_neg (by omega)

theorem State.endB2y_short (h : 0 < s.cnt) :
    s.endB2y = ((({ s with pad := true }.emit (groupByte (s.acc * 2 ^ (8 - s.cnt)))).setGroup 0 0).closeOut
      .fin).setPhase .done := if_pos h

/-- The program port takes what `B2I` emits only (42_execution_cycle.md R162; log 12). -/
theorem State.closeOut_of_ne_b2i (h : s.pop ≠ .b2i) (how : Close) :
    s.closeOut how = { s with packClose := some how } := by
  cases hp : s.pop <;> simp_all [State.closeOut]

theorem State.closeOut_of_b2i (h : s.pop = .b2i) (how : Close) :
    s.closeOut how = { s with
      packClose := some how
      progQ := if s.wired then s.progQ ++ [.closed how] else s.progQ } := by
  simp [State.closeOut, h]

/-! ## The start of a call (40_packer.md R110, R111) -/

theorem State.beginCall_of_busy (h : s.phase = .busy) : s.beginCall = s := by simp [State.beginCall, h]

theorem State.beginCall_of_ne_busy (h : s.phase ≠ .busy) :
    s.beginCall = { s with
      acc := 0, cnt := 0, pad := false, resid := 0, phase := .busy, packOut := [], packClose := none } := by
  cases hp : s.phase <;> simp_all [State.beginCall]

theorem State.writePop_of_busy (h : s.phase = .busy) (op : PackOp) : s.writePop op = s := by
  simp [State.writePop, h]

theorem State.writePop_of_ne_busy (h : s.phase ≠ .busy) (op : PackOp) : s.writePop op = { s with pop := op } := by
  cases hp : s.phase <;> simp_all [State.writePop]

end Step

end Machine

open Machine

/-- Settles O5: the two operations that take bits do so by `takeBit`, whose group is complete or not. -/
theorem packerGroupsBitsMsbFirst : Obligations.PackerGroupsBitsMsbFirst := by
  intro s b r hb hq
  refine ⟨fun hp hc => ?_, fun hp hc => ?_, ?_⟩
  · rw [b2i_does.packStep_item hb hp hq, State.takeBit_full]
    exacts [rfl, hc]
  · rw [b2y_does.packStep_item hb hp hq, State.takeBit_full]
    exacts [rfl, hc]
  · rintro (⟨hp, hc⟩ | ⟨hp, hc⟩)
    · rw [b2i_does.packStep_item hb hp hq, State.takeBit_short]
      exacts [rfl, hc]
    · rw [b2y_does.packStep_item hb hp hq, State.takeBit_short]
      exacts [rfl, hc]

/-- Settles O6: the group is at its boundary or not, and the close joins the program port where it is fed. -/
theorem b2IEndReportsIncompleteGroup : Obligations.B2IEndReportsIncompleteGroup := by
  intro s r hb hq hp
  rw [b2i_does.packStep_fin hb hp hq]
  refine ⟨fun hc => ?_, fun hc => ?_⟩
  · rw [State.endB2i_boundary, State.closeOut_of_b2i]
    exacts [rfl, hp, hc]
  · rw [State.endB2i_short, State.closeOut_of_b2i]
    exacts [rfl, hp, hc]

/-- Settles O7: a short group is emitted padded, and the call ends as on a boundary. -/
theorem b2YEndPadsAndReports : Obligations.B2YEndPadsAndReports := by
  intro s r hb hq hp
  have hne : s.pop ≠ .b2i := by simp [hp]
  rw [b2y_does.packStep_fin hb hp hq]
  refine ⟨fun hc => ?_, fun hc => ?_⟩
  · rw [State.endB2y_short, State.closeOut_of_ne_b2i]
    exacts [rfl, hne, hc]
  · rw [State.endB2y_boundary, State.closeOut_of_ne_b2i]
    exacts [rfl, hne, hc]

/-- Settles O8: an item goes out as its bits, which no program port takes, and `end` only closes the output. -/
theorem expandingOperationsEmitMsbFirst : Obligations.ExpandingOperationsEmitMsbFirst := by
  intro s r hb
  refine ⟨fun c hp hq => ?_, fun v hp hq => ?_, ?_⟩
  · rw [i2b_does.packStep_item hb hp hq, emitAll_bits]
    rfl
  · rw [y2b_does.packStep_item hb hp hq, emitAll_bits]
    rfl
  · rintro (hp | hp) hq
    · rw [i2b_does.packStep_fin hb hp hq, State.closeOut_of_ne_b2i (by simp [hp])]
      rfl
    · rw [y2b_does.packStep_fin hb hp hq, State.closeOut_of_ne_b2i (by simp [hp])]
      rfl

/-- Settles O9: both moves of the host look at the phase first. -/
theorem packerCallStartClearsGroup : Obligations.PackerCallStartClearsGroup := fun _ =>
  ⟨fun h => ⟨State.beginCall_of_ne_busy h, State.writePop_of_ne_busy h⟩,
    fun h => ⟨State.beginCall_of_busy h, State.writePop_of_busy h⟩⟩

end Sys2Proof
end

section
/-! PROOFS (40_packer.md R131). A packer call over a whole stream: the run is a fold of the operation over the
items, and the fold emits what the function form gives. -/

namespace Sys2Proof
namespace Machine

/-! ## A call as a fold over its items -/

/-- The state with the items `q` before the packer and the agents `ts` to move next (log 1). -/
def State.withQueues (s : State) (q : List PackItem) (ts : List Turn) : State := { s with packQ := q, turns := ts }

/-- A run goes on from what its first step answers. -/
theorem run_succ_of_next {M : Host.Core} {s t : M.State} (h : M.step s = .next t) (n : Nat) :
    M.run (n + 1) s = M.run n t := by
  rw [Host.Core.run, h]

section Queues

variable {s t : State} {x : PackItem} (q : List PackItem) (ts : List Turn)

theorem State.takeBit_withQueues (k : Nat) (item : Nat → PackOut) (b : Bit) :
    (s.withQueues q ts).takeBit k item b = (s.takeBit k item b).withQueues q ts := by
  rw [State.takeBit, State.takeBit, apply_ite (State.withQueues · q ts)]
  rfl

theorem State.endB2i_withQueues : (s.withQueues q ts).endB2i = s.endB2i.withQueues q ts := by
  rw [State.endB2i, State.endB2i, apply_ite (State.withQueues · q ts)]
  rfl

theorem State.endB2y_withQueues : (s.withQueues q ts).endB2y = s.endB2y.withQueues q ts := by
  rw [State.endB2y, State.endB2y, apply_ite (State.withQueues · q ts)]
  rfl

/-- What the packer does with an item depends neither on the items behind it nor on who moves next. -/
theorem packItem_withQueues (h : packItem s x = .next t) :
    packItem (s.withQueues q ts) x = .next (t.withQueues q ts) := by
  unfold packItem at h
  split at h <;> cases h
  case h_1 b hp => rw [b2i_does.item (s.withQueues q ts) b hp, State.takeBit_withQueues]
  case h_2 hp => rw [b2i_does.fin (s.withQueues q ts) hp, State.endB2i_withQueues]
  case h_3 c hp => rw [i2b_does.item (s.withQueues q ts) c hp, emitAll_bits, emitAll_bits]; rfl
  case h_4 hp => exact i2b_does.fin (s.withQueues q ts) hp
  case h_5 b hp => rw [b2y_does.item (s.withQueues q ts) b hp, State.takeBit_withQueues]
  case h_6 hp => rw [b2y_does.fin (s.withQueues q ts) hp, State.endB2y_withQueues]
  case h_7 v hp => rw [y2b_does.item (s.withQueues q ts) v hp, emitAll_bits, emitAll_bits]; rfl
  case h_8 hp => exact y2b_does.fin (s.withQueues q ts) hp

/-- One turn of the packer in a call. -/
theorem run_packItem (supp : Config.Support) (n : Nat) (hb : s.phase = .busy) (h : packItem s x = .next t) :
    (coreWith supp).run (n + 1) (s.withQueues (x :: q) (.pack :: ts)) =
      (coreWith supp).run n (t.withQueues q ts) := by
  have hitem : packItem (s.withQueues q ts) x = .next (t.withQueues q ts) := packItem_withQueues q ts h
  have hstep : (coreWith supp).step (s.withQueues (x :: q) (.pack :: ts)) = .next (t.withQueues q ts) :=
    (packStep_of_busy (s := s.withQueues (x :: q) ts) hb rfl).trans hitem
  exact run_succ_of_next hstep n

end Queues

section Does

variable {α : Type} {op : PackOp} {port : α → PackItem} {act : State → α → State} {last : State → State}

theorem PackOp.Does.pop_eq (d : op.Does port act last) {s : State} (hp : s.pop = op) (a : α) :
    (act s a).pop = op :=
  (congrArg State.pop (packItem_frame (d.item s a hp))).trans hp

/-- As many turns of the packer as there are items take them one after the other. -/
theorem PackOp.Does.run_items (d : op.Does port act last) (supp : Config.Support) (n : Nat) {s : State}
    (hb : s.phase = .busy) (hp : s.pop = op) (xs : List α) (q : List PackItem) (ts : List Turn) :
    (coreWith supp).run (xs.length + n)
        (s.withQueues (xs.map port ++ q) (List.replicate xs.length .pack ++ ts)) =
      (coreWith supp).run n ((xs.foldl act s).withQueues q ts) := by
  induction xs generalizing s with
  | nil => simp
  | cons x xs ih =>
    have hlen : (x :: xs).length + n = xs.length + n + 1 := by rw [List.length_cons]; omega
    rw [hlen]
    exact (run_packItem _ _ supp _ hb (d.item s x hp)).trans (ih ((d.phase s x).trans hb) (d.pop_eq hp x))

theorem PackOp.Does.foldl_keeps (d : op.Does port act last) {s : State} (hb : s.phase = .busy) (hp : s.pop = op)
    (xs : List α) : (xs.foldl act s).phase = .busy ∧ (xs.foldl act s).pop = op := by
  induction xs generalizing s with
  | nil => exact ⟨hb, hp⟩
  | cons x xs ih => exact ih ((d.phase s x).trans hb) (d.pop_eq hp x)

/-- A call that takes a whole stream and its end. -/
theorem PackOp.Does.run_stream (d : op.Does port act last) {s : State} (hb : s.phase = .busy) (hp : s.pop = op)
    {xs : List α} {rest : List PackItem} (hq : s.packQ = xs.map port ++ .fin :: rest)
    (hts : s.turns = List.replicate (xs.length + 1) .pack) :
    Sys2Proof.core.run (xs.length + 1) s = .next ((last (xs.foldl act s)).withQueues rest []) := by
  obtain ⟨hb', hp'⟩ := d.foldl_keeps hb hp xs
  have hs : s = s.withQueues (xs.map port ++ .fin :: rest) (List.replicate xs.length .pack ++ [.pack]) := by
    rw [← hq, ← List.replicate_succ', ← hts]
    rfl
  have hitems := d.run_items Config.supported 1 hb hp xs (.fin :: rest) [.pack]
  rw [← hs] at hitems
  exact hitems.trans (run_packItem rest [] Config.supported 0 hb' (d.fin _ hp'))

end Does

/-! ## What a fold emits -/

/-- Emitting adds to the output stream and, where the packer feeds it, to the program port. -/
theorem emitAll_frame (xs : List PackOut) (s : State) :
    s.emitAll xs = { s with packOut := s.packOut ++ xs, progQ := (s.emitAll xs).progQ } := by
  induction xs generalizing s with
  | nil => simp [State.emitAll]
  | cons x xs ih =>
    have h : s.emitAll (x :: xs) = (s.emit x).emitAll xs := rfl
    rw [h]
    exact (ih (s.emit x)).trans (by simp [State.emit])

@[simp] theorem emitAll_packOut (xs : List PackOut) (s : State) : (s.emitAll xs).packOut = s.packOut ++ xs := by
  rw [emitAll_frame]

@[simp] theorem emitAll_pad (xs : List PackOut) (s : State) : (s.emitAll xs).pad = s.pad := by
  rw [emitAll_frame]

@[simp] theorem emitAll_resid (xs : List PackOut) (s : State) : (s.emitAll xs).resid = s.resid := by
  rw [emitAll_frame]

/-- Items that are each taken apart, one after the other. -/
theorem foldl_emitAll {α : Type} (f : α → List PackOut) (as : List α) (s : State) :
    as.foldl (fun u a => u.emitAll (f a)) s = s.emitAll (as.flatMap f) := List.foldl_flatMap.symm

/-! ## What a group of bits holds (40_packer.md R113, R123) -/

/-- `ACC` after the bits of a group, from `acc` on. -/
def groupValue (acc : Nat) (bits : List Bit) : Nat := bits.foldl (fun a b => 2 * a + b.toNat) acc

@[simp] theorem groupValue_cons (acc : Nat) (b : Bit) (bits : List Bit) :
    groupValue acc (b :: bits) = groupValue (2 * acc + b.toNat) bits := rfl

theorem groupValue_append (acc : Nat) (as bits : List Bit) :
    groupValue acc (as ++ bits) = groupValue (groupValue acc as) bits := List.foldl_append

/-- Zero bits on the right. -/
theorem groupValue_zeros (acc m : Nat) : groupValue acc (List.replicate m false) = acc * 2 ^ m := by
  induction m generalizing acc with
  | zero => simp [groupValue]
  | succ m ih =>
    rw [List.replicate_succ, groupValue_cons, ih, Bool.toNat_false]
    ring

theorem groupValue_codeBits (c : Code) : groupValue 0 (codeBits c) = c.toNat := by
  rw [toNat_eq_bits]
  simp [groupValue, codeBits]
  omega

theorem groupValue_byteBits (v : Byte) : groupValue 0 (byteBits v) = v.toNat := by
  rw [byte_toNat_eq_bits]
  simp [groupValue, byteBits, List.range_succ]
  omega

@[simp] theorem groupCode_groupValue (c : Code) : groupCode (groupValue 0 (codeBits c)) = .code c := by
  rw [groupValue_codeBits, groupCode, BitVec.ofNat_toNat, BitVec.setWidth_eq]

@[simp] theorem groupByte_groupValue (v : Byte) : groupByte (groupValue 0 (byteBits v)) = .byte v := by
  rw [groupValue_byteBits, groupByte, BitVec.ofNat_toNat, BitVec.setWidth_eq]

/-- The byte of a short group, from the group's value and length. -/
theorem groupByte_short {r : List Bit} (h : r.length < 8) :
    groupByte (groupValue 0 r * 2 ^ (8 - r.length)) = .byte (byteAt r 0) := by
  rw [← groupValue_zeros, ← groupValue_append, ← byteBits_byteAt h, groupByte_groupValue]

theorem State.setGroup_eq_self {s : State} {acc cnt : Nat} (hacc : s.acc = acc) (hcnt : s.cnt = cnt) :
    s.setGroup acc cnt = s := by
  subst hacc hcnt
  rfl

section Groups

variable {k : Nat} {item : Nat → PackOut}

/-- Bits that do not complete a group. -/
theorem foldl_takeBit_short {bits : List Bit} {s : State} (h : s.cnt + bits.length < k) :
    bits.foldl (fun u b => u.takeBit k item b) s = s.setGroup (groupValue s.acc bits) (s.cnt + bits.length) := by
  induction bits generalizing s with
  | nil => rfl
  | cons b bits ih =>
    rw [List.length_cons] at h ⊢
    have hcnt : s.cnt + (bits.length + 1) = s.cnt + 1 + bits.length := by omega
    rw [List.foldl_cons, State.takeBit_short item b (by omega), hcnt]
    exact ih (by rw [State.setGroup_cnt, ← hcnt]; exact h)

/-- Bits that complete a group. -/
theorem foldl_takeBit_full {bits : List Bit} {s : State} (hne : bits ≠ []) (h : s.cnt + bits.length = k) :
    bits.foldl (fun u b => u.takeBit k item b) s = (s.emit (item (groupValue s.acc bits))).setGroup 0 0 := by
  obtain ⟨init, b, rfl⟩ := List.eq_nil_or_concat' bits |>.resolve_left hne
  rw [List.length_append, List.length_singleton] at h
  rw [List.foldl_append, foldl_takeBit_short (bits := init) (by omega), List.foldl_cons, List.foldl_nil,
    State.takeBit_full item b (by simp; omega), groupValue_append]
  rfl

variable {α : Type} {f : α → List Bit} {out : α → PackOut}

/-- From an empty group on, each whole group is emitted, and the bits left over stay in the group. -/
theorem foldl_takeBit_groups (hk : 0 < k) (hlen : ∀ a, (f a).length = k)
    (hout : ∀ a, item (groupValue 0 (f a)) = out a) (as : List α) {r : List Bit} (hr : r.length < k) {s : State}
    (hacc : s.acc = 0) (hcnt : s.cnt = 0) :
    (as.flatMap f ++ r).foldl (fun u b => u.takeBit k item b) s =
      (s.emitAll (as.map out)).setGroup (groupValue 0 r) r.length := by
  induction as generalizing s with
  | nil =>
    rw [List.flatMap_nil, List.nil_append, foldl_takeBit_short (by omega), hacc, hcnt, Nat.zero_add]
    rfl
  | cons a as ih =>
    have hne : f a ≠ [] := fun e => by have := hlen a; rw [e, List.length_nil] at this; omega
    have hempty : (s.emit (out a)).setGroup 0 0 = s.emit (out a) := State.setGroup_eq_self hacc hcnt
    rw [List.flatMap_cons, List.append_assoc, List.foldl_append,
      foldl_takeBit_full hne (by rw [hcnt, hlen, Nat.zero_add]), hacc, hout, hempty, ih (s := s.emit (out a)) hacc hcnt]
    rfl

end Groups

/-! ## The function forms on whole groups and a rest -/

theorem exists_i2b_append (s : List Bit) : ∃ (c : List Code) (r : List Bit), s = i2b c ++ r ∧ r.length < 3 := by
  refine exists_flatMap_append (by decide) (fun l hl => ?_) s
  match l, hl with
  | [a, b, d], _ => exact exists_codeBits_eq a b d

theorem b2i_i2b_append_short (c : List Code) {r : List Bit} (hne : r ≠ []) (hr : r.length < 3) :
    b2i (i2b c ++ r) = .error r.length := by
  have hpos : 0 < r.length := List.length_pos_iff.mpr hne
  have hmod : (i2b c ++ r).length % 3 = r.length := by rw [List.length_append, i2b_length]; omega
  rw [b2i, hmod, if_neg (by omega)]

theorem take_i2b_append (c : List Code) {r : List Bit} (hr : r.length < 3) :
    (i2b c ++ r).take (3 * ((i2b c ++ r).length / 3)) = i2b c := by
  have hlen : 3 * ((i2b c ++ r).length / 3) = (i2b c).length := by
    rw [List.length_append, i2b_length]; omega
  rw [hlen, List.take_left]

/-! ## The state at the end of the bits -/

theorem foldl_b2i {s : State} (c : List Code) {r : List Bit} (hr : r.length < 3) (hacc : s.acc = 0)
    (hcnt : s.cnt = 0) :
    (i2b c ++ r).foldl (fun u b => u.takeBit 3 groupCode b) s =
      (s.emitAll (c.map .code)).setGroup (groupValue 0 r) r.length :=
  foldl_takeBit_groups (by decide) codeBits_length groupCode_groupValue c hr hacc hcnt

theorem foldl_b2y {s : State} (y : List Byte) {r : List Bit} (hr : r.length < 8) (hacc : s.acc = 0)
    (hcnt : s.cnt = 0) :
    (y2b y ++ r).foldl (fun u b => u.takeBit 8 groupByte b) s =
      (s.emitAll (y.map .byte)).setGroup (groupValue 0 r) r.length :=
  foldl_takeBit_groups (by decide) byteBits_length groupByte_groupValue y hr hacc hcnt

end Machine

open Machine

/-- Settles O10: the bits are whole codes, which the call emits, and a rest, which decides how it ends. -/
theorem b2IStreamAgreesWithFunction : Obligations.B2IStreamAgreesWithFunction := by
  intro s bits rest hb hp hacc hcnt hout hq hts
  have hrun := b2i_does.run_stream hb hp hq hts
  obtain ⟨c, r, rfl, hr⟩ := exists_i2b_append bits
  rw [foldl_b2i c hr hacc hcnt] at hrun
  refine ⟨_, hrun, rfl, ?_⟩
  rcases eq_or_ne r [] with rfl | hne
  · rw [List.append_nil, b2i_i2b, State.endB2i_boundary rfl]
    refine ⟨fun c hc => ?_, fun _ hk => (nomatch hk)⟩
    cases hc
    simp [State.withQueues, hout]
  · have hpos : r.length ≠ 0 := fun e => hne (List.length_eq_zero_iff.mp e)
    rw [b2i_i2b_append_short c hne hr, State.endB2i_short hpos]
    refine ⟨fun _ hc => (nomatch hc), fun k hk => ?_⟩
    cases hk
    rw [take_i2b_append c hr]
    exact ⟨rfl, rfl, rfl, c, b2i_i2b c, by simp [State.withQueues, hout]⟩

/-- Settles O11: the bits are whole bytes, which the call emits, and a rest, which is padded if there is one. -/
theorem b2YStreamAgreesWithFunction : Obligations.B2YStreamAgreesWithFunction := by
  intro s bits rest hb hp hacc hcnt hpad hout hq hts
  have hrun := b2y_does.run_stream hb hp hq hts
  obtain ⟨y, r, rfl, hr⟩ := exists_y2b_append bits
  rw [foldl_b2y y hr hacc hcnt] at hrun
  refine ⟨_, hrun, rfl, ?_⟩
  rcases eq_or_ne r [] with rfl | hne
  · rw [List.append_nil, b2y_y2b, State.endB2y_boundary rfl]
    simp [State.withQueues, hout, hpad]
  · rw [b2y_y2b_append, b2y_short hne hr, State.endB2y_short (List.length_pos_iff.mpr hne)]
    simp [State.withQueues, hout, groupByte_short hr]

/-- Settles O12: each item is emitted as its bits, so the whole stream as the bits of the sequence. -/
theorem expandingStreamsAgreeWithFunction : Obligations.ExpandingStreamsAgreeWithFunction := by
  refine ⟨fun s c rest hb hp hout hq hts => ?_, fun s y rest hb hp hout hq hts => ?_⟩
  · refine ⟨_, i2b_does.run_stream hb hp hq hts, rfl, ?_, rfl, rfl⟩
    simp [State.withQueues, foldl_emitAll, hout, i2b, List.map_flatMap]
  · refine ⟨_, y2b_does.run_stream hb hp hq hts, rfl, ?_, rfl, rfl⟩
    simp [State.withQueues, foldl_emitAll, hout, y2b, List.map_flatMap]

end Sys2Proof
end

section
/-! PROOFS (41_jump_table.md R147, R148). The depth of bracket nesting along a program, and what it says of a bracket:
which `[` are still open after a position, and which `]` closes which `[`. -/

namespace Sys2Proof
namespace Machine

/-! ## The depth of nesting -/

/-- How many more `[` than `]` the first `n` positions of a program hold. -/
def depth (p : List Code) (n : Nat) : Int :=
  ((p.take n).count (encode .open_) : Int) - ((p.take n).count (encode .close) : Int)

section Depth

variable {p : List Code} {i j k n o : Nat}

@[simp] theorem depth_zero (p : List Code) : depth p 0 = 0 := by simp [depth]

theorem depth_length (p : List Code) :
    depth p p.length = (p.count (encode .open_) : Int) - (p.count (encode .close) : Int) := by simp [depth]

theorem depth_le (p : List Code) (n : Nat) : depth p n ≤ p.length := by
  have h : (p.take n).count (encode .open_) ≤ p.length :=
    List.count_le_length.trans (List.length_take_le' n p)
  unfold depth
  omega

theorem encode_open_ne_close : encode .open_ ≠ encode .close := by decide

/-- A position adds its own bracket, if it holds one. -/
theorem depth_succ (p : List Code) (n : Nat) :
    depth p (n + 1) = depth p n +
      ((p[n]?.toList.count (encode .open_) : Int) - (p[n]?.toList.count (encode .close) : Int)) := by
  simp only [depth, List.take_add_one, List.count_append]
  omega

theorem depth_succ_of_open (h : p[n]? = some (encode .open_)) : depth p (n + 1) = depth p n + 1 := by
  rw [depth_succ, h]
  simp [encode_open_ne_close]

theorem depth_succ_of_close (h : p[n]? = some (encode .close)) : depth p (n + 1) = depth p n - 1 := by
  rw [depth_succ, h]
  simp [encode_open_ne_close.symm, sub_eq_add_neg]

theorem depth_succ_of_other (ho : p[n]? ≠ some (encode .open_)) (hc : p[n]? ≠ some (encode .close)) :
    depth p (n + 1) = depth p n := by
  have ho' : encode .open_ ∉ p[n]?.toList := by simpa using ho
  have hc' : encode .close ∉ p[n]?.toList := by simpa using hc
  rw [depth_succ, List.count_eq_zero_of_not_mem ho', List.count_eq_zero_of_not_mem hc']
  simp

/-- A position moves the depth up at `[`, down at `]`, and not at all elsewhere. -/
theorem depth_succ_cases (p : List Code) (n : Nat) :
    (p[n]? = some (encode .open_) ∧ depth p (n + 1) = depth p n + 1) ∨
    (p[n]? = some (encode .close) ∧ depth p (n + 1) = depth p n - 1) ∨
    (p[n]? ≠ some (encode .open_) ∧ p[n]? ≠ some (encode .close) ∧ depth p (n + 1) = depth p n) := by
  by_cases ho : p[n]? = some (encode .open_)
  · exact .inl ⟨ho, depth_succ_of_open ho⟩
  · by_cases hc : p[n]? = some (encode .close)
    · exact .inr (.inl ⟨hc, depth_succ_of_close hc⟩)
    · exact .inr (.inr ⟨ho, hc, depth_succ_of_other ho hc⟩)

theorem getElem?_eq_open_of_depth_lt (h : depth p n < depth p (n + 1)) : p[n]? = some (encode .open_) := by
  rcases depth_succ_cases p n with ⟨ho, _⟩ | ⟨_, hd⟩ | ⟨_, _, hd⟩
  · exact ho
  all_goals omega

theorem getElem?_eq_close_of_depth_lt (h : depth p (n + 1) < depth p n) : p[n]? = some (encode .close) := by
  rcases depth_succ_cases p n with ⟨_, hd⟩ | ⟨hc, _⟩ | ⟨_, _, hd⟩
  · omega
  · exact hc
  · omega

/-- The brackets between two positions, as the change of the depth. -/
theorem opensIn_sub_closesIn (h : i ≤ j + 1) :
    (opensIn p i j : Int) - (closesIn p i j : Int) = depth p (j + 1) - depth p i := by
  have hsplit : p.take (j + 1) = p.take i ++ (p.drop i).take (j + 1 - i) := by
    rw [← List.take_add]
    congr 1
    omega
  simp only [opensIn, closesIn, depth, hsplit, List.count_append]
  omega

theorem opensIn_eq_closesIn_iff (h : i ≤ j + 1) :
    opensIn p i j = closesIn p i j ↔ depth p (j + 1) = depth p i := by
  have := opensIn_sub_closesIn (p := p) h
  omega

/-- No more `]` than `[` up to a position. -/
theorem closesIn_zero_le_iff (p : List Code) (j : Nat) : closesIn p 0 j ≤ opensIn p 0 j ↔ 0 ≤ depth p (j + 1) := by
  have := opensIn_sub_closesIn (p := p) (Nat.zero_le (j + 1))
  rw [depth_zero] at this
  omega

/-! ## Open and matched brackets -/

/-- The `[` at `o` is still open after the first `n` positions: the depth has stayed above where it was. -/
def Pending (p : List Code) (n o : Nat) : Prop := o < n ∧ ∀ k, o < k → k ≤ n → depth p o < depth p k

/-- The `]` at `j` brings the depth back to where it was at the `[` at `i`, for the first time. -/
def Matched (p : List Code) (i j : Nat) : Prop := Pending p j i ∧ depth p (j + 1) = depth p i

theorem Pending.depth_lt (h : Pending p n o) : depth p o < depth p n := h.2 n h.1 (Nat.le_refl n)

theorem Pending.getElem?_eq (h : Pending p n o) : p[o]? = some (encode .open_) :=
  getElem?_eq_open_of_depth_lt (h.2 (o + 1) (Nat.lt_succ_self o) h.1)

theorem pending_succ_iff :
    Pending p (n + 1) o ↔ (Pending p n o ∨ o = n) ∧ depth p o < depth p (n + 1) := by
  constructor
  · intro h
    refine ⟨?_, h.depth_lt⟩
    rcases Nat.lt_succ_iff_lt_or_eq.mp h.1 with hlt | heq
    · exact .inl ⟨hlt, fun k hk hkn => h.2 k hk (by omega)⟩
    · exact .inr heq
  · rintro ⟨hp, hd⟩
    have hle : o ≤ n := hp.elim (fun h => h.1.le) Eq.le
    refine ⟨by omega, fun k hk hkn => ?_⟩
    rcases Nat.le_succ_iff.mp hkn with hkn | rfl
    · exact hp.elim (fun h => h.2 k hk hkn) (fun h => by omega)
    · exact hd

theorem Matched.lt (h : Matched p i j) : i < j := h.1.1

/-- Between the two brackets of a pair the depth is above where it was at the first. -/
theorem Matched.depth_lt (h : Matched p i j) (hi : i < k) (hj : k ≤ j) : depth p i < depth p k := h.1.2 k hi hj

theorem Matched.depth_eq (h : Matched p i j) : depth p (j + 1) = depth p i := h.2

theorem Matched.getElem?_left (h : Matched p i j) : p[i]? = some (encode .open_) := h.1.getElem?_eq

theorem Matched.getElem?_right (h : Matched p i j) : p[j]? = some (encode .close) :=
  getElem?_eq_close_of_depth_lt (h.depth_eq ▸ h.1.depth_lt)

theorem Matched.lt_length (h : Matched p i j) : j < p.length := (List.getElem?_eq_some_iff.mp h.getElem?_right).1

theorem Matched.left_unique (h : Matched p i n) (h' : Matched p o n) : i = o := by
  have hle : ∀ {a b}, Matched p a n → Matched p b n → a ≤ b := fun {a b} ha hb => by
    by_contra hlt
    have := hb.depth_lt (k := a) (by omega) ha.lt.le
    have := ha.depth_eq.symm.trans hb.depth_eq
    omega
  exact Nat.le_antisymm (hle h h') (hle h' h)

theorem Matched.right_unique (h : Matched p i j) (h' : Matched p i k) : j = k := by
  have hle : ∀ {a b}, Matched p i a → Matched p i b → a ≤ b := fun {a b} ha hb => by
    by_contra hlt
    have := ha.depth_lt (k := b + 1) (by have := hb.lt; omega) (by omega)
    have := hb.depth_eq
    omega
  exact Nat.le_antisymm (hle h h') (hle h' h)

/-- No position is both a `[` and a `]`. -/
theorem Matched.not_left (h : Matched p i j) : ¬ Matched p j k := fun h' =>
  encode_open_ne_close (Option.some.inj (h'.getElem?_left.symm.trans h.getElem?_right))

/-- Two pairs are disjoint or nested (41_jump_table.md R148). -/
theorem Matched.disjoint_or_nested {a a' b b' : Nat} (ha : Matched p a a') (hb : Matched p b b') (h : a < b) :
    a' < b ∨ b' < a' := by
  obtain ⟨⟨hlta, hpa⟩, hda⟩ := ha
  obtain ⟨⟨hltb, hpb⟩, hdb⟩ := hb
  by_contra hcross
  have hab := hpa b h (by omega)
  rcases Nat.lt_or_ge a' b' with hlt | hge
  · have := hpb (a' + 1) (by omega) hlt
    omega
  · obtain rfl : a' = b' := by omega
    omega

/-- A `[` among the first `n` positions is still open after them or has its `]` among them. -/
theorem pending_or_matched (ho : p[o]? = some (encode .open_)) (hn : o < n) :
    Pending p n o ∨ ∃ j < n, Matched p o j := by
  have hup := depth_succ_of_open ho
  induction n, hn using Nat.le_induction with
  | base =>
    refine .inl ⟨Nat.lt_succ_self o, fun k hk hkn => ?_⟩
    obtain rfl : k = o + 1 := by omega
    omega
  | succ n hn ih =>
    rcases ih with hp | ⟨j, hj, hm⟩
    · rcases lt_or_ge (depth p o) (depth p (n + 1)) with hlt | hge
      · exact .inl (pending_succ_iff.mpr ⟨.inl hp, hlt⟩)
      · -- The depth moves by one, so it is back exactly where it was.
        have hback : depth p (n + 1) = depth p o := by
          have hlt := hp.depth_lt
          rcases depth_succ_cases p n with ⟨_, hd⟩ | ⟨_, hd⟩ | ⟨_, _, hd⟩ <;> omega
        exact .inr ⟨n, Nat.lt_succ_self n, hp, hback⟩
    · exact .inr ⟨j, by omega, hm⟩

theorem Pending.not_matched (h : Pending p n o) (hj : j < n) : ¬ Matched p o j := fun hm => by
  have := h.2 (j + 1) (by have := hm.lt; omega) hj
  have := hm.depth_eq
  omega

/-- A `[` is still open at the end exactly if no later position brings the depth back. -/
theorem pending_length_iff (ho : p[o]? = some (encode .open_)) :
    Pending p p.length o ↔ ∀ j, o < j → j < p.length → opensIn p o j ≠ closesIn p o j := by
  constructor
  · intro h j hj hjl he
    have hlt := h.2 (j + 1) (by omega) hjl
    have hback := (opensIn_eq_closesIn_iff (by omega)).mp he
    omega
  · intro h
    rcases pending_or_matched ho (List.getElem?_eq_some_iff.mp ho).1 with hp | ⟨j, hj, hm⟩
    · exact hp
    · have hlt := hm.lt
      exact absurd ((opensIn_eq_closesIn_iff (by omega)).mpr hm.depth_eq) (h j hlt hj)

theorem not_pending_length_iff (ho : p[o]? = some (encode .open_)) :
    ¬ Pending p p.length o ↔ ∃ j, o < j ∧ j < p.length ∧ opensIn p o j = closesIn p o j := by
  rw [pending_length_iff ho]
  push Not
  rfl

end Depth

end Machine

end Sys2Proof
end

section
/-! PROOFS (41_jump_table.md R140, R142 to R144, R146; 10_state.md R27, R28). What the scan's stack and table hold after
each position: the `[` still open and the pairs of brackets; and how a scan of a whole program ends. -/

namespace Sys2Proof
namespace Machine

/-! ## What the scan holds -/

/-- What `BSTACK` holds after the first `n` positions: the `[` still open, in rising order, the one at index `k`
standing at depth `k` (10_state.md R28). -/
structure StackInv (p : List Code) (n : Nat) (st : List Nat) : Prop where
  /-- Rising from bottom to top. -/
  rise : st.Pairwise (· < ·)
  /-- Its entries are the `[` still open. -/
  mem_iff : ∀ o, o ∈ st ↔ Pending p n o
  /-- The depth at each of them. -/
  depth_at : ∀ (k o : Nat), st[k]? = some o → depth p o = k
  /-- The depth reached. -/
  depth_eq : depth p n = st.length
  /-- The depth has not been below zero. -/
  nonneg : ∀ k ≤ n, 0 ≤ depth p k

/-- `i` and `j` are a pair of brackets among the first `n` positions, either way. -/
def Partner (p : List Code) (n i j : Nat) : Prop := (Matched p i j ∧ j < n) ∨ (Matched p j i ∧ i < n)

/-- What `JT` holds after the first `n` positions: their pairs, both ways (10_state.md R27). -/
structure TableInv (p : List Code) (n : Nat) (jt : JumpTable) : Prop where
  /-- The canonical form. -/
  keys : keysRise jt
  /-- Its entries are the pairs. -/
  get_iff : ∀ i j, assocGet? jt i = some j ↔ Partner p n i j
  /-- Every `]` scanned has its `[`. -/
  closed : ∀ j < n, p[j]? = some (encode .close) → ∃ i, Matched p i j

/-- What the scan holds after the first `n` positions of a program. -/
structure ScanInv (p : List Code) (n : Nat) (st : List Nat) (jt : JumpTable) : Prop where
  /-- The stack. -/
  stack : StackInv p n st
  /-- The table. -/
  table : TableInv p n jt

theorem ScanInv.start (p : List Code) : ScanInv p 0 [] [] where
  stack := {
    rise := .nil
    mem_iff := fun o => by simp [Pending]
    depth_at := by simp
    depth_eq := by simp
    nonneg := fun k hk => by simp [Nat.le_zero.mp hk] }
  table := {
    keys := by simp [keysRise]
    get_iff := fun i j => by simp [assocGet?, Partner]
    closed := by simp }

section Inv

variable {p : List Code} {n i j o : Nat} {st : List Nat} {jt : JumpTable}

theorem StackInv.nonneg_succ (h : StackInv p n st) (hd : 0 ≤ depth p (n + 1)) : ∀ k ≤ n + 1, 0 ≤ depth p k := by
  intro k hk
  rcases Nat.le_succ_iff.mp hk with hk | rfl
  · exact h.nonneg k hk
  · exact hd

/-- A `[` is pushed (41_jump_table.md R143). -/
theorem StackInv.push (h : StackInv p n st) (hd : depth p (n + 1) = depth p n + 1) : StackInv p (n + 1) (st ++ [n]) := by
  have hn := h.depth_eq
  refine ⟨?_, fun o => ?_, fun k o hk => ?_, ?_, h.nonneg_succ (by omega)⟩
  · rw [List.pairwise_append]
    refine ⟨h.rise, List.pairwise_singleton _ _, fun o ho m hm => ?_⟩
    rw [List.mem_singleton.mp hm]
    exact ((h.mem_iff o).mp ho).1
  · rw [List.mem_append, List.mem_singleton, h.mem_iff, pending_succ_iff]
    refine ⟨fun ho => ⟨ho, ?_⟩, And.left⟩
    rcases ho with hp | rfl
    · have := hp.depth_lt
      omega
    · omega
  · rcases Nat.lt_trichotomy k st.length with hlt | rfl | hgt
    · rw [List.getElem?_append_left hlt] at hk
      exact h.depth_at k o hk
    · rw [List.getElem?_concat_length] at hk
      cases hk
      exact hn
    · rw [List.getElem?_eq_none (by simp; omega)] at hk
      cases hk
  · rw [List.length_append, List.length_singleton, hd, hn]
    rfl

/-- What closes at `]` is the top of the stack. -/
theorem StackInv.matched_top (h : StackInv p n (st ++ [o])) (hd : depth p (n + 1) = depth p n - 1) :
    Matched p o n := by
  have htop := h.depth_at st.length o List.getElem?_concat_length
  have hn := h.depth_eq
  rw [List.length_append, List.length_singleton] at hn
  exact ⟨(h.mem_iff o).mp (by simp), by omega⟩

/-- The top is popped at `]` (41_jump_table.md R144). -/
theorem StackInv.pop (h : StackInv p n (st ++ [o])) (hd : depth p (n + 1) = depth p n - 1) : StackInv p (n + 1) st := by
  have htop := (h.matched_top hd).depth_eq
  have hn : depth p (n + 1) = st.length := by
    have := h.depth_eq
    rw [List.length_append, List.length_singleton] at this
    omega
  have hat : ∀ (k x : Nat), st[k]? = some x → depth p x = k ∧ k < st.length := fun k x hk => by
    have hlt := (List.getElem?_eq_some_iff.mp hk).1
    exact ⟨h.depth_at k x ((List.getElem?_append_left hlt).trans hk), hlt⟩
  refine ⟨(List.pairwise_append.mp h.rise).1, fun x => ?_, fun k x hk => (hat k x hk).1, hn, h.nonneg_succ (by omega)⟩
  rw [pending_succ_iff, ← h.mem_iff, List.mem_append, List.mem_singleton]
  constructor
  · intro hx
    obtain ⟨k, hk⟩ := List.getElem?_of_mem hx
    have := hat k x hk
    exact ⟨.inl (.inl hx), by omega⟩
  · rintro ⟨(hx | rfl) | rfl, hlt⟩
    · exact hx
    all_goals omega

/-- Another instruction leaves the stack as it is. -/
theorem StackInv.pass (h : StackInv p n st) (hd : depth p (n + 1) = depth p n) : StackInv p (n + 1) st := by
  have hn := h.depth_eq
  refine ⟨h.rise, fun o => ?_, h.depth_at, hd.trans hn, h.nonneg_succ (by omega)⟩
  rw [h.mem_iff, pending_succ_iff, hd]
  refine ⟨fun hp => ⟨.inl hp, hp.depth_lt⟩, ?_⟩
  rintro ⟨hp | rfl, hlt⟩
  · exact hp
  · omega

/-- A position that is no `]` completes no pair. -/
theorem TableInv.pass (h : TableInv p n jt) (hd : depth p n ≤ depth p (n + 1)) : TableInv p (n + 1) jt := by
  have hnot : ∀ i, ¬ Matched p i n := fun i hm => by
    have := depth_succ_of_close hm.getElem?_right
    omega
  have hlt : ∀ i j, Matched p i j ∧ j < n + 1 ↔ Matched p i j ∧ j < n := fun i j => by
    refine and_congr_right fun hm => ⟨fun hj => ?_, Nat.lt_succ_of_lt⟩
    exact (Nat.lt_succ_iff_lt_or_eq.mp hj).resolve_right fun e => hnot i (e ▸ hm)
  refine ⟨h.keys, fun i j => ?_, fun j hj hc => ?_⟩
  · rw [h.get_iff, Partner, Partner, hlt, hlt]
  · rcases Nat.lt_succ_iff_lt_or_eq.mp hj with hj | rfl
    · exact h.closed j hj hc
    · have := depth_succ_of_close hc
      omega

/-- The pair that `]` completes is recorded both ways (41_jump_table.md R144). -/
theorem TableInv.record (h : TableInv p n jt) (ho : Matched p o n) :
    TableInv p (n + 1) (assocSet n o (assocSet o n jt)) := by
  refine ⟨keysRise_assocSet (keysRise_assocSet h.keys), fun i j => ?_, fun j hj hc => ?_⟩
  · rw [assocGet?_assocSet, assocGet?_assocSet]
    by_cases hin : n = i
    · -- At the `]` itself: its one partner is the `[`.
      subst hin
      rw [if_pos rfl, Option.some.injEq]
      constructor
      · rintro rfl
        exact .inr ⟨ho, Nat.lt_succ_self n⟩
      · rintro (⟨hm, _⟩ | ⟨hm, _⟩)
        · exact absurd hm ho.not_left
        · exact ho.left_unique hm
    · rw [if_neg hin]
      by_cases hio : o = i
      · -- At its `[`: its one partner is the `]`.
        subst hio
        rw [if_pos rfl, Option.some.injEq]
        constructor
        · rintro rfl
          exact .inl ⟨ho, Nat.lt_succ_self n⟩
        · rintro (⟨hm, _⟩ | ⟨hm, _⟩)
          · exact ho.right_unique hm
          · exact absurd ho hm.not_left
      · -- Elsewhere the pairs are those there were.
        rw [if_neg hio, h.get_iff]
        refine or_congr (and_congr_right fun hm => ?_) (and_congr_right fun _ => by omega)
        have hjn : j ≠ n := fun e => hio (ho.left_unique (e ▸ hm))
        omega
  · rcases Nat.lt_succ_iff_lt_or_eq.mp hj with hj | rfl
    · exact h.closed j hj hc
    · exact ⟨o, ho⟩

/-! ## What an entry of the table says -/

theorem TableInv.get_of_matched (h : TableInv p p.length jt) (hm : Matched p i j) :
    assocGet? jt i = some j ∧ assocGet? jt j = some i :=
  ⟨(h.get_iff i j).mpr (.inl ⟨hm, hm.lt_length⟩), (h.get_iff j i).mpr (.inr ⟨hm, hm.lt_length⟩)⟩

/-- An entry of the table is a pair, one way or the other. -/
theorem TableInv.matched_of_get (h : TableInv p n jt) (hg : assocGet? jt i = some j) :
    Matched p i j ∨ Matched p j i := ((h.get_iff i j).mp hg).imp And.left And.left

theorem TableInv.matched_of_get_open (h : TableInv p n jt) (hi : p[i]? = some (encode .open_))
    (hg : assocGet? jt i = some j) : Matched p i j := by
  refine (h.matched_of_get hg).resolve_right fun hm => ?_
  exact encode_open_ne_close (Option.some.inj (hi.symm.trans hm.getElem?_right))

theorem TableInv.matched_of_get_close (h : TableInv p n jt) (hi : p[i]? = some (encode .close))
    (hg : assocGet? jt i = some j) : Matched p j i := by
  refine (h.matched_of_get hg).resolve_left fun hm => ?_
  exact encode_open_ne_close (Option.some.inj (hm.getElem?_left.symm.trans hi))

/-! ## The scan -/

/-- The position a scan is at, and what is left behind it. -/
theorem getElem?_of_drop_eq_cons {c : Code} {q : List Code} (h : p.drop n = c :: q) :
    p[n]? = some c ∧ p.drop (n + 1) = q := by
  rw [← List.head?_drop, ← List.tail_drop, h]
  exact ⟨rfl, rfl⟩

theorem scanCodes_cons_of_some {c : Code} {st' : List Nat} {jt' : JumpTable}
    (h : scanOne c n st jt = some (st', jt')) (q : List Code) :
    scanCodes (c :: q) n st jt = scanCodes q (n + 1) st' jt' := by
  simp [scanCodes, h]

theorem scanCodes_cons_of_none {c : Code} (h : scanOne c n st jt = none) (q : List Code) :
    scanCodes (c :: q) n st jt = .error n := by
  simp [scanCodes, h]

/-- One scan step keeps what the scan holds, or stops at a `]` below every `[`. -/
theorem ScanInv.scanOne_keeps {c : Code} (h : ScanInv p n st jt) (hc : p[n]? = some c) :
    (∃ st' jt', scanOne c n st jt = some (st', jt') ∧ ScanInv p (n + 1) st' jt') ∨
    (scanOne c n st jt = none ∧ depth p (n + 1) < 0) := by
  obtain ⟨hs, ht⟩ := h
  rcases depth_succ_cases p n with ⟨ho, hd⟩ | ⟨hcl, hd⟩ | ⟨ho, hcl, hd⟩
  · obtain rfl := Option.some.inj (hc.symm.trans ho)
    exact .inl ⟨_, _, scanOne_open n st jt, hs.push hd, ht.pass (by omega)⟩
  · obtain rfl := Option.some.inj (hc.symm.trans hcl)
    rcases List.eq_nil_or_concat' st with rfl | ⟨st, o, rfl⟩
    · have hn := hs.depth_eq
      rw [List.length_nil] at hn
      exact .inr ⟨scanOne_close_nil n jt, by omega⟩
    · exact .inl ⟨_, _, scanOne_close_snoc n o st jt, hs.pop hd, ht.record (hs.matched_top hd)⟩
  · rw [hc, ne_eq, Option.some.injEq] at ho hcl
    exact .inl ⟨_, _, scanOne_other ho hcl n st jt, hs.pass hd, ht.pass hd.ge⟩

/-- `i` is the first position up to which there are more `]` than `[`. -/
def FirstExcess (p : List Code) (i : Nat) : Prop := i < p.length ∧ depth p (i + 1) < 0 ∧ ∀ k ≤ i, 0 ≤ depth p k

/-- A scan to the end keeps what it holds, or stops at the first `]` in excess. -/
theorem ScanInv.scanCodes_keeps {q : List Code} (h : ScanInv p n st jt) (hq : p.drop n = q) :
    (∃ st' jt', scanCodes q n st jt = .ok (st', jt') ∧ ScanInv p (n + q.length) st' jt') ∨
    (∃ i, scanCodes q n st jt = .error i ∧ FirstExcess p i) := by
  induction q generalizing n st jt with
  | nil => exact .inl ⟨st, jt, rfl, h⟩
  | cons c q ih =>
    obtain ⟨hc, hrest⟩ := getElem?_of_drop_eq_cons hq
    rcases h.scanOne_keeps hc with ⟨st', jt', e, h'⟩ | ⟨e, hd⟩
    · have hlen : n + (c :: q).length = n + 1 + q.length := by rw [List.length_cons]; omega
      rw [scanCodes_cons_of_some e, hlen]
      exact ih h' hrest
    · exact .inr ⟨n, scanCodes_cons_of_none e q, (List.getElem?_eq_some_iff.mp hc).1, hd, h.stack.nonneg⟩

end Inv

/-- The scan of a whole program. -/
theorem scanCodes_cases (p : List Code) :
    (∃ st jt, scanCodes p 0 [] [] = .ok (st, jt) ∧ ScanInv p p.length st jt) ∨
    (∃ i, scanCodes p 0 [] [] = .error i ∧ FirstExcess p i) := by
  simpa using (ScanInv.start p).scanCodes_keeps rfl

theorem ScanInv.of_scanCodes {p : List Code} {st : List Nat} {jt : JumpTable}
    (h : scanCodes p 0 [] [] = .ok (st, jt)) : ScanInv p p.length st jt := by
  rcases scanCodes_cases p with ⟨st', jt', e, hinv⟩ | ⟨i, e, _⟩ <;> cases h.symm.trans e
  exact hinv

end Machine

open Machine

/-- Settles O18: the stack holds the `[` still open, and a `[` is still open or is in the table with its `]`. -/
theorem stackHoldsUnmatchedOpensInOrder : Obligations.StackHoldsUnmatchedOpensInOrder := by
  intro p st jt h
  obtain ⟨hstack, htable⟩ := ScanInv.of_scanCodes h
  refine ⟨hstack.rise, ?_, fun o => ?_⟩
  · have hle := depth_le p p.length
    have heq := hstack.depth_eq
    omega
  · rw [hstack.mem_iff]
    constructor
    · intro hp
      refine ⟨hp.getElem?_eq, Option.eq_none_iff_forall_ne_some.mpr fun j hg => ?_⟩
      have hm := htable.matched_of_get_open hp.getElem?_eq hg
      exact hp.not_matched hm.lt_length hm
    · rintro ⟨ho, hnone⟩
      rcases pending_or_matched ho (List.getElem?_eq_some_iff.mp ho).1 with hp | ⟨j, _, hm⟩
      · exact hp
      · exact absurd ((htable.get_of_matched hm).1.symm.trans hnone) (by simp)

end Sys2Proof
end

section
/-! PROOFS (41_jump_table.md R145, R147, R148). `build_jump_table` said of the depth of nesting, without a scan, and what
its table holds. -/

namespace Sys2Proof
namespace Machine

/-! ## The three outcomes -/

/-- The three outcomes of `build_jump_table`, and what holds of the program in each. -/
theorem buildJumpTable_cases (p : List Code) :
    (∃ i, buildJumpTable p = .error (.unmatchedClose i) ∧ FirstExcess p i) ∨
    (∃ o st jt, buildJumpTable p = .error (.unmatchedOpen o) ∧ ScanInv p p.length (o :: st) jt) ∨
    (∃ jt, buildJumpTable p = .ok jt ∧ ScanInv p p.length [] jt) := by
  rcases scanCodes_cases p with ⟨_ | ⟨o, st⟩, jt, e, hinv⟩ | ⟨i, e, hi⟩
  · exact .inr (.inr ⟨jt, by simp [buildJumpTable, e], hinv⟩)
  · exact .inr (.inl ⟨o, st, jt, by simp [buildJumpTable, e], hinv⟩)
  · exact .inl ⟨i, by simp [buildJumpTable, e], hi⟩

theorem ScanInv.of_buildJumpTable {p : List Code} {jt : JumpTable} (h : buildJumpTable p = .ok jt) :
    ScanInv p p.length [] jt := by
  rcases buildJumpTable_cases p with ⟨_, e, _⟩ | ⟨_, _, _, e, _⟩ | ⟨_, e, hinv⟩ <;> cases h.symm.trans e
  exact hinv

/-! ## The function form without a scan (41_jump_table.md R147) -/

section FunctionForm

variable {p : List Code} {i o : Nat} {st : List Nat} {jt : JumpTable}

/-- No position has more `]` than `[` up to it, said of the depth. -/
theorem forall_closesIn_le_iff (p : List Code) (m : Nat) :
    (∀ j < m, closesIn p 0 j ≤ opensIn p 0 j) ↔ ∀ k ≤ m, 0 ≤ depth p k := by
  simp only [closesIn_zero_le_iff]
  constructor
  · intro h k hk
    cases k with
    | zero => exact (depth_zero p).ge
    | succ k => exact h k hk
  · exact fun h j hj => h (j + 1) hj

theorem firstExcess_iff : FirstExcess p i ↔
    i < p.length ∧ opensIn p 0 i < closesIn p 0 i ∧ ∀ j < i, closesIn p 0 j ≤ opensIn p 0 j := by
  have hneg : opensIn p 0 i < closesIn p 0 i ↔ depth p (i + 1) < 0 := by
    rw [← not_le, closesIn_zero_le_iff, not_le]
  rw [forall_closesIn_le_iff, hneg, FirstExcess]

theorem FirstExcess.not_nonneg (h : FirstExcess p i) : ¬ ∀ k ≤ p.length, 0 ≤ depth p k := fun hn => by
  obtain ⟨hi, hneg, _⟩ := h
  have := hn (i + 1) hi
  omega

theorem FirstExcess.unique (h : FirstExcess p i) (h' : FirstExcess p o) : i = o := by
  have hle : ∀ {a b}, FirstExcess p a → FirstExcess p b → a ≤ b := fun {a b} ⟨_, _, ha⟩ ⟨_, hb, _⟩ => by
    by_contra hlt
    have := ha (b + 1) (by omega)
    omega
  exact Nat.le_antisymm (hle h h') (hle h' h)

/-- `i` is the first `[` that is still open at the end. -/
def FirstPending (p : List Code) (i : Nat) : Prop :=
  Pending p p.length i ∧ ∀ k < i, p[k]? = some (encode .open_) → ¬ Pending p p.length k

theorem firstPending_iff : FirstPending p i ↔
    p[i]? = some (encode .open_) ∧
    (∀ j, i < j → j < p.length → opensIn p i j ≠ closesIn p i j) ∧
    ∀ k < i, p[k]? = some (encode .open_) → ∃ j, k < j ∧ j < p.length ∧ opensIn p k j = closesIn p k j := by
  have hfirst : (∀ k < i, p[k]? = some (encode .open_) → ¬ Pending p p.length k) ↔
      ∀ k < i, p[k]? = some (encode .open_) → ∃ j, k < j ∧ j < p.length ∧ opensIn p k j = closesIn p k j :=
    forall₃_congr fun _ _ hk => not_pending_length_iff hk
  rw [FirstPending, hfirst, ← and_assoc]
  refine and_congr_left' ⟨fun h => ⟨h.getElem?_eq, ?_⟩, fun ⟨ho, h⟩ => (pending_length_iff ho).mpr h⟩
  exact (pending_length_iff h.getElem?_eq).mp h

theorem FirstPending.unique (h : FirstPending p i) (h' : FirstPending p o) : i = o := by
  have hle : ∀ {a b}, FirstPending p a → FirstPending p b → a ≤ b := fun {a b} ⟨_, ha⟩ ⟨hb, _⟩ =>
    Nat.le_of_not_lt fun hlt => ha b hlt hb.getElem?_eq hb
  exact Nat.le_antisymm (hle h h') (hle h' h)

/-- The bottom of the stack is the first `[` still open (41_jump_table.md R145). -/
theorem StackInv.firstPending (h : StackInv p p.length (o :: st)) : FirstPending p o := by
  refine ⟨(h.mem_iff o).mp List.mem_cons_self, fun k hk _ hp => ?_⟩
  rcases List.mem_cons.mp ((h.mem_iff k).mpr hp) with rfl | hmem
  · exact Nat.lt_irrefl k hk
  · exact absurd (List.rel_of_pairwise_cons h.rise hmem) (Nat.lt_asymm hk)

theorem buildJumpTable_unmatchedClose_iff : buildJumpTable p = .error (.unmatchedClose i) ↔ FirstExcess p i := by
  rcases buildJumpTable_cases p with ⟨j, e, hj⟩ | ⟨o, st, jt, e, hinv⟩ | ⟨jt, e, hinv⟩ <;> rw [e]
  · simp only [Except.error.injEq, JtFault.unmatchedClose.injEq]
    exact ⟨fun h => h ▸ hj, hj.unique⟩
  · exact ⟨fun h => (nomatch h), fun hi => absurd hinv.stack.nonneg hi.not_nonneg⟩
  · exact ⟨fun h => (nomatch h), fun hi => absurd hinv.stack.nonneg hi.not_nonneg⟩

theorem buildJumpTable_unmatchedOpen_iff : buildJumpTable p = .error (.unmatchedOpen i) ↔
    (∀ k ≤ p.length, 0 ≤ depth p k) ∧ 0 < depth p p.length ∧ FirstPending p i := by
  rcases buildJumpTable_cases p with ⟨j, e, hj⟩ | ⟨o, st, jt, e, hinv⟩ | ⟨jt, e, hinv⟩ <;> rw [e]
  · exact ⟨fun h => (nomatch h), fun h => absurd h.1 hj.not_nonneg⟩
  · have hpos : 0 < depth p p.length := by
      rw [hinv.stack.depth_eq, List.length_cons]
      omega
    have hfirst := hinv.stack.firstPending
    simp only [Except.error.injEq, JtFault.unmatchedOpen.injEq]
    exact ⟨fun h => ⟨hinv.stack.nonneg, hpos, h ▸ hfirst⟩, fun ⟨_, _, h⟩ => hfirst.unique h⟩
  · refine ⟨fun h => (nomatch h), fun ⟨_, hpos, _⟩ => ?_⟩
    rw [hinv.stack.depth_eq] at hpos
    exact absurd hpos (lt_irrefl _)

theorem exists_buildJumpTable_iff : (∃ jt, buildJumpTable p = .ok jt) ↔
    (∀ k ≤ p.length, 0 ≤ depth p k) ∧ depth p p.length = 0 := by
  rcases buildJumpTable_cases p with ⟨j, e, hj⟩ | ⟨o, st, jt, e, hinv⟩ | ⟨jt, e, hinv⟩ <;> rw [e]
  · exact ⟨fun ⟨_, h⟩ => (nomatch h), fun h => absurd h.1 hj.not_nonneg⟩
  · refine ⟨fun ⟨_, h⟩ => (nomatch h), fun ⟨_, hzero⟩ => ?_⟩
    rw [hinv.stack.depth_eq, List.length_cons] at hzero
    omega
  · exact ⟨fun _ => ⟨hinv.stack.nonneg, hinv.stack.depth_eq⟩, fun _ => ⟨jt, rfl⟩⟩

/-- With nothing open at the end every `[` has its `]`. -/
theorem ScanInv.exists_matched (h : ScanInv p p.length [] jt) (hi : p[i]? = some (encode .open_)) :
    ∃ j, Matched p i j := by
  rcases pending_or_matched hi (List.getElem?_eq_some_iff.mp hi).1 with hp | ⟨j, _, hm⟩
  · exact absurd ((h.stack.mem_iff i).mpr hp) List.not_mem_nil
  · exact ⟨j, hm⟩

/-- The table's domain is the brackets (41_jump_table.md R148). -/
theorem ScanInv.isSome_iff (h : ScanInv p p.length [] jt) :
    (assocGet? jt i).isSome = true ↔ p[i]? = some (encode .open_) ∨ p[i]? = some (encode .close) := by
  rw [Option.isSome_iff_exists]
  constructor
  · rintro ⟨j, hg⟩
    exact (h.table.matched_of_get hg).imp Matched.getElem?_left Matched.getElem?_right
  · rintro (hi | hi)
    · obtain ⟨j, hm⟩ := h.exists_matched hi
      exact ⟨j, (h.table.get_of_matched hm).1⟩
    · obtain ⟨j, hm⟩ := h.table.closed i (List.getElem?_eq_some_iff.mp hi).1 hi
      exact ⟨j, (h.table.get_of_matched hm).2⟩

end FunctionForm

end Machine

open Machine

/-- Settles O15: counts of brackets are depths; each failure is that of the scan, and a `[` of a program with a
table has the first position that brings the depth back. -/
theorem jumpTableFunctionForm : Obligations.JumpTableFunctionForm := by
  intro p
  refine ⟨fun i => ?_, fun i => ?_, ?_, fun jt hjt i hi => ?_⟩
  · rw [buildJumpTable_unmatchedClose_iff, firstExcess_iff]
  · have hcount : 0 < depth p p.length ↔ p.count (encode .close) < p.count (encode .open_) := by
      rw [depth_length]
      omega
    rw [buildJumpTable_unmatchedOpen_iff, forall_closesIn_le_iff, hcount, firstPending_iff]
  · have hcount : depth p p.length = 0 ↔ p.count (encode .close) = p.count (encode .open_) := by
      rw [depth_length]
      omega
    rw [exists_buildJumpTable_iff, forall_closesIn_le_iff, hcount]
  · have hinv := ScanInv.of_buildJumpTable hjt
    obtain ⟨j, hm⟩ := hinv.exists_matched hi
    obtain ⟨hij, hji⟩ := hinv.table.get_of_matched hm
    have hlt := hm.lt
    refine ⟨j, hij, hji, hlt, hm.lt_length, (opensIn_eq_closesIn_iff (by omega)).mpr hm.depth_eq, fun k hk hkj he => ?_⟩
    have hback := (opensIn_eq_closesIn_iff (by omega)).mp he
    have habove := hm.depth_lt (k := k + 1) (by omega) hkj
    omega

/-- Settles O16: the entries of the table are the pairs of brackets, both ways, and two pairs do not cross. -/
theorem jumpTableProperties : Obligations.JumpTableProperties := by
  intro p jt hjt
  have hinv := ScanInv.of_buildJumpTable hjt
  refine ⟨hinv.table.keys, fun i => hinv.isSome_iff, fun i j hg => ⟨?_, ?_, fun hi => ?_, fun hi => ?_⟩,
    fun a b a' b' hab ha hb hga hgb => ?_⟩
  · rcases hinv.table.matched_of_get hg with hm | hm
    · exact hm.lt_length
    · exact hm.lt.trans hm.lt_length
  · rcases hinv.table.matched_of_get hg with hm | hm
    · exact (hinv.table.get_of_matched hm).2
    · exact (hinv.table.get_of_matched hm).1
  · have hm := hinv.table.matched_of_get_open hi hg
    exact ⟨hm.getElem?_right, hm.lt⟩
  · have hm := hinv.table.matched_of_get_close hi hg
    exact ⟨hm.getElem?_left, hm.lt⟩
  · exact (hinv.table.matched_of_get_open ha hga).disjoint_or_nested (hinv.table.matched_of_get_open hb hgb) hab

end Sys2Proof
end

section
/-! PROOFS (41_jump_table.md R140, R143 to R146, R149, R152; 42_execution_cycle.md R161). The steps of `JTB` as whole
states, preprocessing as a run of them, and what loading and scanning leave alone. -/

namespace Sys2Proof
namespace Machine

/-! ## The steps of the scan -/

section Step

variable {s : State} {c : Code} {st : List Nat} {jt : JumpTable} {o : Nat}

theorem prepStep_of_scanOne (hc : s.imem[s.scan]? = some c)
    (h : scanOne c s.scan s.bstack s.jt = some (st, jt)) : prepStep s = s.scanned st jt := by
  simp [prepStep, hc, h]

theorem prepStep_of_scanOne_none (hc : s.imem[s.scan]? = some c) (h : scanOne c s.scan s.bstack s.jt = none) :
    prepStep s = s.raise .unmatchedCloseBracket s.scan := by
  simp [prepStep, hc, h]

theorem prepStep_at_end_of_nil (hc : s.imem[s.scan]? = none) (hb : s.bstack = []) : prepStep s = s.startExec := by
  simp [prepStep, hc, hb]

theorem prepStep_at_end_of_cons (hc : s.imem[s.scan]? = none) (hb : s.bstack = o :: st) :
    prepStep s = s.raise .unmatchedOpenBracket o := by
  simp [prepStep, hc, hb]

theorem runStep_of_load (supp : Config.Support) (h : s.status = .load) :
    runStep supp s = .next (loadStep supp s) := by
  simp [runStep, h]

theorem runStep_of_prep (supp : Config.Support) (h : s.status = .prep) : runStep supp s = .next (prepStep s) := by
  simp [runStep, h]

/-- No unit of the run steps in `FAULTED` (60_exceptions.md R236). -/
theorem runStep_of_faulted (supp : Config.Support) (h : s.status = .faulted) : runStep supp s = .next s := by
  simp [runStep, h]

end Step

/-- The codes above 5 are those of the brackets (30_encoding.md R92). -/
theorem ne_bracket_of_toNat_le {c : Code} (h : c.toNat ≤ 5) : c ≠ encode .open_ ∧ c ≠ encode .close := by
  revert c; decide

/-! ## Preprocessing as a run (41_jump_table.md R140, R152) -/

/-- The state preprocessing ends in, from what the scan up to position `n` gives. -/
def State.afterScan (s : State) (n : Nat) : Except Nat (List Nat × JumpTable) → State
  | .error i => s.raise .unmatchedCloseBracket i
  | .ok ([], jt) => { s.startExec with jt := jt, scan := n, bstack := [] }
  | .ok (o :: _, _) => s.raise .unmatchedOpenBracket o

/-- The final step (41_jump_table.md R145). -/
theorem prepStep_at_end {s : State} (hc : s.imem[s.scan]? = none) :
    prepStep s = s.afterScan s.scan (.ok (s.bstack, s.jt)) := by
  cases hb : s.bstack with
  | nil =>
    have hkeep : s.startExec = { s.startExec with bstack := s.bstack } := rfl
    rw [prepStep_at_end_of_nil hc hb, hkeep, hb]
    rfl
  | cons o st => exact prepStep_at_end_of_cons hc hb

/-- The end of preprocessing does not depend on how far the scan had come. -/
theorem State.afterScan_scanned (s : State) (st : List Nat) (jt : JumpTable) (n : Nat)
    (r : Except Nat (List Nat × JumpTable)) : (s.scanned st jt).afterScan n r = s.afterScan n r := by
  rcases r with _ | ⟨_ | _, _⟩ <;> rfl

theorem core_step_of_no_turns {s : State} (h : s.turns = []) :
    Sys2Proof.core.step s = runStep Config.supported s := by
  rcases stepWith_cases Config.supported s with ⟨_, e⟩ | ⟨_, ht, _⟩ | ⟨_, ht, _⟩ | ⟨_, _, ht, _⟩
  · exact e
  all_goals cases h.symm.trans ht

theorem core_step_of_prep {s : State} (hs : s.status = .prep) (ht : s.turns = []) :
    Sys2Proof.core.step s = .next (prepStep s) :=
  (core_step_of_no_turns ht).trans (runStep_of_prep _ hs)

/-- A run that has faulted stays as it is. -/
theorem core_run_of_faulted {s : State} (hs : s.status = .faulted) (ht : s.turns = []) (n : Nat) :
    Sys2Proof.core.run n s = .next s := by
  induction n with
  | zero => rfl
  | succ n ih => exact (run_succ_of_next ((core_step_of_no_turns ht).trans (runStep_of_faulted _ hs)) n).trans ih

/-- A step for each position left and one more end preprocessing, as the scan of those positions says. -/
theorem core_run_scan {cs : List Code} {s : State} (hs : s.status = .prep) (ht : s.turns = [])
    (hcs : s.imem.drop s.scan = cs) :
    Sys2Proof.core.run (cs.length + 1) s =
      .next (s.afterScan (s.scan + cs.length) (scanCodes cs s.scan s.bstack s.jt)) := by
  induction cs generalizing s with
  | nil =>
    have hend : s.imem[s.scan]? = none := List.getElem?_eq_none (List.drop_eq_nil_iff.mp hcs)
    exact (run_succ_of_next (core_step_of_prep hs ht) 0).trans (congrArg Host.Outcome.next (prepStep_at_end hend))
  | cons c cs ih =>
    obtain ⟨hc, hrest⟩ := getElem?_of_drop_eq_cons hcs
    refine (run_succ_of_next (core_step_of_prep hs ht) (cs.length + 1)).trans ?_
    cases h1 : scanOne c s.scan s.bstack s.jt with
    | none =>
      rw [prepStep_of_scanOne_none hc h1, scanCodes_cons_of_none h1]
      exact core_run_of_faulted (s := s.raise .unmatchedCloseBracket s.scan) rfl ht _
    | some x =>
      obtain ⟨st, jt⟩ := x
      have hlen : s.scan + (c :: cs).length = s.scan + 1 + cs.length := by rw [List.length_cons]; omega
      rw [prepStep_of_scanOne hc h1, scanCodes_cons_of_some h1, hlen, ← s.afterScan_scanned st jt]
      exact ih (s := s.scanned st jt) hs ht hrest

theorem State.afterScan_sink (s : State) (n : Nat) (r : Except Nat (List Nat × JumpTable)) :
    (s.afterScan n r).sink = s.sink := by
  rcases r with _ | ⟨_ | _, _⟩ <;> rfl

theorem State.afterScan_inQ (s : State) (n : Nat) (r : Except Nat (List Nat × JumpTable)) :
    (s.afterScan n r).inQ = s.inQ := by
  rcases r with _ | ⟨_ | _, _⟩ <;> rfl

/-! ## What loading and scanning leave alone (41_jump_table.md R149, 70_reset_and_hazards.md R265) -/

/-- A step of the loader writes neither the input, the acceptances nor the configuration, and does not halt. -/
theorem loadStep_keeps (supp : Config.Support) {s : State} (h : s.status = .load) :
    (loadStep supp s).inQ = s.inQ ∧ (loadStep supp s).credit = s.credit ∧ (loadStep supp s).cfg = s.cfg ∧
      (loadStep supp s).status ≠ .halted := by
  rcases loadStep_cases supp s with ⟨_, e⟩ | ⟨c, _, _, e⟩ | ⟨_, _, _, e⟩ | ⟨_, _, _, e⟩ | ⟨_, _, e⟩ <;> rw [e]
  · simp [h]
  · simp [h]
  · simp
  · simp
  · simp

/-- A step of `JTB` writes neither the input, the acceptances, the configuration, the program nor its port, and
does not halt. -/
theorem prepStep_keeps {s : State} (h : s.status = .prep) :
    (prepStep s).inQ = s.inQ ∧ (prepStep s).credit = s.credit ∧ (prepStep s).cfg = s.cfg ∧
      (prepStep s).status ≠ .halted ∧ (prepStep s).imem = s.imem ∧ (prepStep s).progQ = s.progQ := by
  rcases prepStep_cases s with ⟨_, _, _, _, _, e⟩ | ⟨_, _, _, e⟩ | ⟨_, _, e⟩ | ⟨_, _, _, _, e⟩ <;> rw [e]
  · simp [h]
  · simp
  · simp
  · simp

end Machine

open Machine

/-- Settles O21: the run of the scan's steps ends as `scanCodes` says, which is what `build_jump_table` reports. -/
theorem scanAgreesWithFunctionForm : Obligations.ScanAgreesWithFunctionForm := by
  intro s hs hscan hb hjt ht
  have hrun := core_run_scan hs ht rfl
  rw [hscan, hb, hjt, List.drop_zero, Nat.zero_add] at hrun
  refine ⟨_, hrun, State.afterScan_sink .., State.afterScan_inQ .., ?_⟩
  rw [buildJumpTable]
  rcases scanCodes s.imem 0 [] [] with i | ⟨_ | ⟨o, st⟩, jt⟩
  · refine ⟨fun _ h => (nomatch h), fun j h => ?_, fun _ h => (nomatch h)⟩
    cases h
    exact ⟨rfl, rfl, rfl⟩
  · refine ⟨fun _ h => ?_, fun _ h => (nomatch h), fun _ h => (nomatch h)⟩
    cases h
    exact ⟨rfl, Memory.read_zeroed⟩
  · refine ⟨fun _ h => (nomatch h), fun _ h => (nomatch h), fun j h => ?_⟩
    cases h
    exact ⟨rfl, rfl, rfl⟩

/-- Settles O25: the loader and `JTB` write none of what is outside, and neither of them halts the run. -/
theorem nothingHappensOutsideBeforeExecution : Obligations.NothingHappensOutsideBeforeExecution := by
  intro supp s h
  rcases h with hs | hs
  · obtain ⟨hin, hcredit, hcfg, hhalt⟩ := loadStep_keeps supp hs
    refine ⟨_, runStep_of_load supp hs, loadStep_sink supp s, hin, hcredit, hcfg,
      State.observeFinal_of_ne_halted hhalt, fun hp => ?_⟩
    cases hs.symm.trans hp
  · obtain ⟨hin, hcredit, hcfg, hhalt, himem, hprog⟩ := prepStep_keeps hs
    exact ⟨_, runStep_of_prep supp hs, prepStep_sink s, hin, hcredit, hcfg,
      State.observeFinal_of_ne_halted hhalt, fun _ => ⟨himem, hprog⟩⟩

/-- Settles O17: the step on what `scanOne` does at `[`, at `]` above a `[`, and at `]` above nothing. -/
theorem scanStepsAtBrackets : Obligations.ScanStepsAtBrackets := by
  intro s _ _
  refine ⟨fun hc => ?_, fun st o hc hb => ?_, fun hc hb => ?_⟩
  · exact prepStep_of_scanOne hc (scanOne_open ..)
  · have hone := scanOne_close_snoc s.scan o st s.jt
    rw [← hb] at hone
    refine ⟨_, prepStep_of_scanOne hc hone, ?_, ?_, fun k ho hk => ?_⟩
    · rw [assocGet?_assocSet, assocGet?_assocSet, if_pos rfl]
      split
      · exact congrArg some (Eq.symm ‹_›)
      · rfl
    · rw [assocGet?_assocSet, if_pos rfl]
    · rw [assocGet?_assocSet, assocGet?_assocSet, if_neg hk.symm, if_neg ho.symm]
  · have hone := scanOne_close_nil s.scan s.jt
    rw [← hb] at hone
    rw [prepStep_of_scanOne_none hc hone]
    exact ⟨rfl, rfl, rfl, fun supp => runStep_of_faulted supp rfl⟩

/-- Settles O19: `scanOne` hands back stack and table at every code but the brackets'. -/
theorem scanPassesOtherInstructions : Obligations.ScanPassesOtherInstructions := by
  intro s c _ hc hle
  obtain ⟨ho, hcl⟩ := ne_bracket_of_toNat_le hle
  exact prepStep_of_scanOne hc (scanOne_other ho hcl ..)

/-- Settles O20: at the end of the program the stack decides. -/
theorem finalScanStepStartsOrFaults : Obligations.FinalScanStepStartsOrFaults := by
  intro s _ hscan
  have hend : s.imem[s.scan]? = none := List.getElem?_eq_none (Nat.le_of_eq hscan.symm)
  refine ⟨fun o st hb => ?_, fun hb => ⟨Memory.zeroed, prepStep_at_end_of_nil hend hb, Memory.read_zeroed⟩⟩
  rw [prepStep_at_end_of_cons hend hb]
  exact ⟨rfl, rfl, rfl⟩

end Sys2Proof
end

section
/-! PROOFS (42_execution_cycle.md R169; 43_pointer.md R185; 10_state.md R25, R27, R32, R33, R35, R36). The invariant is
kept by each update that the units make, and so by a step of each agent. -/

namespace Sys2Proof
namespace Machine

/-! ## The parts of the invariant, phase by phase -/

section Parts

variable {s : State}

/-- Where neither a fault nor a refusal is recorded, `FCAUSE` and `FPOS` are clear (10_state.md R32, R33). -/
theorem State.statusOk_iff_clear (hf : s.status ≠ .faulted) (hr : s.status ≠ .refused) :
    s.StatusOk ↔ s.fcause = .none ∧ s.fpos = 0 := by
  constructor
  · rintro ⟨hnone, _, hpos⟩
    have hc := hnone.mpr ⟨hf, hr⟩
    exact ⟨hc, hpos (.inl hc)⟩
  · rintro ⟨hc, hp⟩
    simp [StatusOk, hc, hp, hf, hr]

/-- The status registers from one phase without a fault to another. -/
theorem State.StatusOk.of_unfaulted {t : State} (h : s.StatusOk) (hs : s.status ≠ .faulted ∧ s.status ≠ .refused)
    (ht : t.status ≠ .faulted ∧ t.status ≠ .refused) (hc : t.fcause = s.fcause) (hp : t.fpos = s.fpos) :
    t.StatusOk := by
  rw [statusOk_iff_clear ht.1 ht.2, hc, hp]
  exact (statusOk_iff_clear hs.1 hs.2).mp h

/-- Where the run neither scans, executes nor has halted, there are the tape, the status registers and the packer
to check. -/
theorem State.inv_of_no_program (hp : s.status ≠ .prep) (hr : s.status ≠ .run) (hh : s.status ≠ .halted)
    (tape : s.tape.wf) (status : s.StatusOk) (pack : s.PackOk) : s.Inv where
  tape := tape
  run := fun h => absurd h hr
  prep := fun h => absurd h hp
  halt := fun h => absurd h hh
  status := status
  pack := pack

theorem PackOp.room_le (op : PackOp) : op.room ≤ 7 := by cases op <;> decide

/-- The packer's registers during a call (10_state.md R35, R36). -/
theorem State.packOk_iff_of_busy (hb : s.phase = .busy) :
    s.PackOk ↔ s.cnt ≤ s.pop.room ∧ s.acc < 2 ^ s.cnt ∧ s.resid = 0 ∧ s.pad = false := by
  have hroom := s.pop.room_le
  constructor
  · rintro ⟨_, hacc, hcnt, _, hresid, hpad⟩
    exact ⟨hcnt hb, hacc, hresid (by simp [hb]), by simpa [hb] using hpad⟩
  · rintro ⟨hcnt, hacc, hresid, hpad⟩
    simp [PackOk, hb, hcnt, hacc, hresid, hpad]
    omega

/-- The packer's registers after a call that ended with `end`. -/
theorem State.packOk_iff_of_done (hd : s.phase = .done) :
    s.PackOk ↔ s.cnt ≤ 7 ∧ s.acc < 2 ^ s.cnt ∧ s.resid = 0 := by
  simp [PackOk, hd]

end Parts

/-! ## The updates of the run -/

section Updates

variable {s : State}

/-- A fault leaves a sound state, whatever the run's registers held: they are unspecified from then on (10_state.md
R45), and the fault is recorded. -/
theorem State.raise_inv (h : s.PackOk) {f : Cause} (hn : f ≠ .none) (hu : f ≠ .unsupported) (info : Nat) :
    (s.raise f info).Inv :=
  inv_of_no_program (by simp) (by simp) (by simp) (Memory.wf_unknown _) (by simp [StatusOk, hn, hu]) h

/-- Whose turn it is, is no part of the invariant. -/
theorem State.Inv.popTurn (h : s.Inv) : s.popTurn.Inv := ⟨h.tape, h.run, h.prep, h.halt, h.status, h.pack⟩

theorem State.Inv.latchEof (h : s.Inv) : s.latchEof.Inv := ⟨h.tape, h.run, h.prep, h.halt, h.status, h.pack⟩

theorem State.Inv.consumeInput (h : s.Inv) : s.consumeInput.Inv :=
  ⟨h.tape, h.run, h.prep, h.halt, h.status, h.pack⟩

theorem State.Inv.deliver (h : s.Inv) (b : Byte) : (s.deliver b).Inv :=
  ⟨h.tape, h.run, h.prep, h.halt, h.status, h.pack⟩

theorem State.Inv.setPc (h : s.Inv) (hs : s.status = .run) {v : Nat} (hv : v ≤ s.len) : (s.setPc v).Inv where
  tape := h.tape
  run := fun _ => ⟨hv, (h.run hs).2⟩
  prep := h.prep
  halt := fun hh => by cases hs.symm.trans hh
  status := h.status
  pack := h.pack

theorem State.Inv.advance (h : s.Inv) (hs : s.status = .run) (hpc : s.pc < s.len) : s.advance.Inv :=
  h.setPc hs hpc

theorem State.Inv.setPtr (h : s.Inv) {p : Int} (hp : validIndex s.cfg p = true) : (s.setPtr p).Inv where
  tape := h.tape
  run := fun hs => by
    obtain ⟨hpc, _, htape⟩ := h.run hs
    exact ⟨hpc, hp, htape⟩
  prep := h.prep
  halt := h.halt
  status := h.status
  pack := h.pack

/-- A reduced value stored at an index of the tape (10_state.md R23, R25). -/
theorem State.Inv.setCell (h : s.Inv) (hp : validIndex s.cfg s.ptr = true) (v : Int) :
    (s.setCell (norm s.cfg.w v)).Inv where
  tape := Memory.wf_write h.tape _ _
  run := fun hs => by
    obtain ⟨hpc, hptr, hfresh, hindex, hwidth, hjt⟩ := h.run hs
    refine ⟨hpc, hptr, hfresh, fun c hc => ?_, fun hw c hc => ?_, hjt⟩
    · rcases Memory.mem_write hc with rfl | hc
      · exact hp
      · exact hindex c hc
    · rcases Memory.mem_write hc with rfl | hc
      · exact norm_range hw v
      · exact hwidth hw c hc
  prep := h.prep
  halt := h.halt
  status := h.status
  pack := h.pack

/-- The run halts at the end of the program (42_execution_cycle.md R168). -/
theorem State.Inv.halt_run (h : s.Inv) (hs : s.status = .run) (hpc : s.len ≤ s.pc) : s.halt.Inv where
  tape := h.tape
  run := fun hr => by cases hr
  prep := fun hp => by cases hp
  halt := fun _ => (h.run hs).1.antisymm hpc
  status := h.status.of_unfaulted (by simp [hs]) (by simp) rfl rfl
  pack := h.pack

/-- Index 0 is on every tape (20_memory.md R68). -/
theorem validIndex_zero (c : Cfg) : validIndex c 0 = true := by
  by_cases hn : 0 < c.n <;> simp [validIndex, hn]

/-- Execution starts on a zeroed tape, with the table of a program scanned to its end (42_execution_cycle.md R161). -/
theorem State.Inv.startExec (h : s.Inv) (hs : s.status = .prep) (hjt : buildJumpTable s.imem = .ok s.jt) :
    s.startExec.Inv where
  tape := Memory.wf_zeroed
  run := fun _ => ⟨Nat.zero_le _, validIndex_zero _, rfl, by simp, by simp, hjt⟩
  prep := fun hp => by cases hp
  halt := fun hh => by cases hh
  status := h.status.of_unfaulted (by simp [hs]) (by simp) rfl rfl
  pack := h.pack

/-- The scan has nothing yet at position 0 (41_jump_table.md R141). -/
theorem State.Inv.beginPrep (h : s.Inv) (hs : s.status = .load) : s.beginPrep.Inv where
  tape := h.tape
  run := fun hr => by cases hr
  prep := fun _ => ⟨Nat.zero_le _, rfl⟩
  halt := fun hh => by cases hh
  status := h.status.of_unfaulted (by simp [hs]) (by simp) rfl rfl
  pack := h.pack

/-- The stack and the table of one position more. -/
theorem State.PrepOk.scanned (h : s.PrepOk) (hs : s.status = .prep) {c : Code} {st : List Nat} {jt : JumpTable}
    (hc : s.imem[s.scan]? = some c) (hone : scanOne c s.scan s.bstack s.jt = some (st, jt)) :
    (s.scanned st jt).PrepOk := by
  intro _
  obtain ⟨hle, hscan⟩ := h hs
  refine ⟨(List.getElem?_eq_some_iff.mp hc).1, ?_⟩
  have htake : s.imem.take (s.scan + 1) = s.imem.take s.scan ++ [c] := by rw [List.take_add_one, hc]; rfl
  have hlen : 0 + (s.imem.take s.scan).length = s.scan := by rw [Nat.zero_add, List.length_take_of_le hle]
  simp only [scanned_imem, scanned_scan, scanned_bstack, scanned_jt]
  rw [htake, scanCodes_append, hscan]
  dsimp only
  rw [hlen, scanCodes_cons_of_some hone]
  rfl

theorem State.Inv.scanned (h : s.Inv) (hs : s.status = .prep) {c : Code} {st : List Nat} {jt : JumpTable}
    (hc : s.imem[s.scan]? = some c) (hone : scanOne c s.scan s.bstack s.jt = some (st, jt)) :
    (s.scanned st jt).Inv where
  tape := h.tape
  run := fun hr => by cases hs.symm.trans hr
  prep := h.prep.scanned hs hc hone
  halt := h.halt
  status := h.status
  pack := h.pack

/-- At the end of the program with nothing open, the table is the program's own. -/
theorem State.PrepOk.buildJumpTable_eq (h : s.PrepOk) (hs : s.status = .prep) (hend : s.imem[s.scan]? = none)
    (hb : s.bstack = []) : buildJumpTable s.imem = .ok s.jt := by
  obtain ⟨_, hscan⟩ := h hs
  rw [List.take_of_length_le (List.getElem?_eq_none_iff.mp hend), hb] at hscan
  rw [buildJumpTable, hscan]

end Updates

/-! ## A step of the run -/

section Run

variable {s t : State}

/-- A bracket's entry in the table is a position of the program (41_jump_table.md R148). -/
theorem State.jump_lt_len (hjt : buildJumpTable s.imem = .ok s.jt) {i : Nat}
    (hi : s.imem[i]? = some (encode .open_) ∨ s.imem[i]? = some (encode .close)) : s.jump i < s.len := by
  have hinv := ScanInv.of_buildJumpTable hjt
  obtain ⟨j, hj⟩ := Option.isSome_iff_exists.mp (hinv.isSome_iff.mpr hi)
  rw [State.jump, hj]
  rcases hinv.table.matched_of_get hj with hm | hm
  · exact hm.lt_length
  · exact hm.lt.trans hm.lt_length

theorem State.fetch_eq_some_iff {i : Instr} : s.fetch = some i ↔ s.imem[s.pc]? = some (encode i) := by
  rw [State.fetch, Option.map_eq_some_iff]
  constructor
  · rintro ⟨c, hc, rfl⟩
    rw [hc, encode_decode]
  · intro h
    exact ⟨_, h, decode_encode i⟩

theorem State.fetch_eq_none_iff : s.fetch = none ↔ s.len ≤ s.pc := by
  rw [State.fetch, Option.map_eq_none_iff, List.getElem?_eq_none_iff]
  rfl

/-- The instruction at `PC` keeps the invariant: each does by the updates it makes, and a bracket jumps to a position
of the program. -/
theorem State.Inv.exec (h : s.Inv) (hs : s.status = .run) {i : Instr} (hf : s.fetch = some i)
    (e : exec i s = .next t) : t.Inv := by
  have hat := fetch_eq_some_iff.mp hf
  have hpc : s.pc < s.len := (List.getElem?_eq_some_iff.mp hat).1
  rcases exec_cases e with ⟨_, p, hp, rfl⟩ | ⟨_, rfl⟩ | ⟨_, hp, v, rfl⟩ | ⟨_, rfl⟩ | ⟨_, _, rfl⟩ | ⟨_, rfl⟩ |
    ⟨_, rfl | rfl⟩ | ⟨_, hp, v, _, rfl | rfl | rfl, rfl⟩ | ⟨hi, rfl | rfl⟩
  · exact (h.setPtr hp).advance hs hpc
  · exact raise_inv h.pack (by decide) (by decide) _
  · exact (h.setCell hp v).advance hs hpc
  -- `.`: the wait and the delivery.
  · exact h
  · exact (h.deliver _).advance hs hpc
  -- `,`: the wait, the end of input that keeps the cell, and the stores.
  · exact h
  · exact h.latchEof.advance hs hpc
  · exact h.consumeInput.latchEof.advance hs hpc
  · exact (h.latchEof.setCell hp v).advance hs hpc
  · exact (h.consumeInput.latchEof.setCell hp v).advance hs hpc
  · exact (h.consumeInput.setCell hp v).advance hs hpc
  -- The brackets, falling through and jumping.
  · exact h.advance hs hpc
  · obtain ⟨_, _, _, _, _, hjt⟩ := h.run hs
    have hj : s.jump s.pc < s.len := jump_lt_len hjt (by rcases hi with rfl | rfl <;> simp [hat])
    exact (h.setPc hs hj.le).advance hs hj

theorem State.Inv.execStep (h : s.Inv) (hs : s.status = .run) (e : execStep s = .next t) : t.Inv := by
  unfold Machine.execStep at e
  split at e
  · exact h.exec hs ‹_› e
  · cases e
    exact h.halt_run hs (fetch_eq_none_iff.mp ‹_›)

theorem State.Inv.prepStep (h : s.Inv) (hs : s.status = .prep) : (prepStep s).Inv := by
  rcases prepStep_cases s with ⟨c, st, jt, hc, hone, e⟩ | ⟨_, _, _, e⟩ | ⟨hend, hb, e⟩ | ⟨_, _, _, _, e⟩ <;> rw [e]
  · exact h.scanned hs hc hone
  · exact raise_inv h.pack (by decide) (by decide) _
  · exact h.startExec hs (h.prep.buildJumpTable_eq hs hend hb)
  · exact raise_inv h.pack (by decide) (by decide) _

theorem State.Inv.consumeProgram (h : s.Inv) : s.consumeProgram.Inv :=
  ⟨h.tape, h.run, h.prep, h.halt, h.status, h.pack⟩

theorem State.Inv.appendCode (h : s.Inv) (hs : s.status = .load) (c : Code) : (s.appendCode c).Inv :=
  inv_of_no_program (by simp [hs]) (by simp [hs]) (by simp [hs]) h.tape h.status h.pack

theorem State.Inv.refuse (h : s.Inv) (hs : s.status = .load) : s.refuse.Inv := by
  obtain ⟨_, hpos⟩ := (statusOk_iff_clear (by simp [hs]) (by simp [hs])).mp h.status
  exact inv_of_no_program (by simp) (by simp) (by simp) h.tape (by simp [StatusOk, hpos]) h.pack

theorem State.Inv.loadStep (h : s.Inv) (hs : s.status = .load) (supp : Config.Support) : (loadStep supp s).Inv := by
  have hc := h.consumeProgram
  rcases loadStep_cases supp s with ⟨_, e⟩ | ⟨c, _, _, e⟩ | ⟨_, _, _, e⟩ | ⟨_, _, _, e⟩ | ⟨_, _, e⟩ <;> rw [e]
  · exact h
  · exact hc.appendCode hs c
  · exact hc.beginPrep hs
  · exact hc.refuse hs
  · exact raise_inv (s := s.consumeProgram.discardProgram) h.pack (by decide) (by decide) _

/-- Each phase of the run keeps the invariant; where the run has ended or not begun it does not move. -/
theorem State.Inv.runStep (h : s.Inv) {supp : Config.Support} (e : runStep supp s = .next t) : t.Inv := by
  unfold Machine.runStep at e
  cases hs : s.status <;> rw [hs] at e
  case run => exact h.execStep hs e
  all_goals cases e
  case load => exact h.loadStep hs supp
  case prep => exact h.prepStep hs
  case idle | halted | faulted | refused => exact h

end Run

/-! ## A step of the packer -/

section Pack

variable {s t : State}

/-- A bit that completes the group empties it, another fits in the room there is (40_packer.md R113, R123). -/
theorem State.PackOk.takeBit (h : s.PackOk) (hb : s.phase = .busy) {k : Nat} (hk : s.pop.room + 1 = k)
    (item : Nat → PackOut) (b : Bit) : (s.takeBit k item b).PackOk := by
  obtain ⟨hcnt, hacc, hresid, hpad⟩ := (packOk_iff_of_busy hb).mp h
  have hbit := b.toNat_le
  by_cases hfull : s.cnt + 1 = k
  · rw [takeBit_full item b hfull]
    exact (packOk_iff_of_busy (by exact hb)).mpr ⟨Nat.zero_le _, Nat.one_pos, hresid, hpad⟩
  · rw [takeBit_short item b hfull]
    have hroom : s.cnt + 1 ≤ s.pop.room := by omega
    have hgroup : 2 * s.acc + b.toNat < 2 ^ (s.cnt + 1) := by rw [Nat.pow_succ]; omega
    exact (packOk_iff_of_busy (by exact hb)).mpr ⟨hroom, hgroup, hresid, hpad⟩

/-- A call that ends with `end` reports no leftover bits. -/
theorem State.PackOk.closeOut_done (h : s.PackOk) (hb : s.phase = .busy) (how : Close) :
    ((s.closeOut how).setPhase .done).PackOk := by
  obtain ⟨hcnt, hacc, hresid, _⟩ := (packOk_iff_of_busy hb).mp h
  exact (packOk_iff_of_done rfl).mpr ⟨hcnt.trans s.pop.room_le, hacc, hresid⟩

/-- A short group of `B2I` holds one or two bits (40_packer.md R114). -/
theorem State.PackOk.endB2i (h : s.PackOk) (hb : s.phase = .busy) (hp : s.pop = .b2i) : s.endB2i.PackOk := by
  by_cases hc : s.cnt = 0
  · rw [endB2i_boundary hc]
    exact h.closeOut_done hb .fin
  · obtain ⟨hcnt, hacc, _, hpad⟩ := (packOk_iff_of_busy hb).mp h
    rw [hp, PackOp.room] at hcnt
    rw [endB2i_short hc]
    simp [PackOk, hacc, hpad]
    omega

theorem State.PackOk.endB2y (h : s.PackOk) (hb : s.phase = .busy) : s.endB2y.PackOk := by
  rcases Nat.eq_zero_or_pos s.cnt with hc | hc
  · rw [endB2y_boundary hc]
    exact h.closeOut_done hb .fin
  · obtain ⟨_, _, hresid, _⟩ := (packOk_iff_of_busy hb).mp h
    rw [endB2y_short hc]
    exact (packOk_iff_of_done rfl).mpr ⟨Nat.zero_le _, Nat.one_pos, hresid⟩

/-- What the packer does with an item of a call keeps its registers in their ranges. -/
theorem State.PackOk.packItem (h : s.PackOk) (hb : s.phase = .busy) {x : PackItem} (e : packItem s x = .next t) :
    t.PackOk := by
  unfold Machine.packItem at e
  split at e <;> cases e
  case h_1 hp => exact h.takeBit hb (by rw [hp]; rfl) ..
  case h_2 hp => exact h.endB2i hb hp
  case h_5 hp => exact h.takeBit hb (by rw [hp]; rfl) ..
  case h_6 => exact h.endB2y hb
  case h_3 | h_7 => rw [emitAll_bits]; exact h
  case h_4 | h_8 => exact h.closeOut_done hb .fin

theorem State.PackOk.packStep (h : s.PackOk) (e : packStep s = .next t) : t.PackOk := by
  rcases packStep_cases s with ⟨e', _⟩ | ⟨_, _, hb, _, e'⟩ <;> rw [e'] at e
  · cases e
    exact h
  · exact State.PackOk.packItem (s := s.consumePack) h hb e

/-- The packer writes nothing that the other parts of the invariant speak of (20_memory.md R76). -/
theorem State.Inv.packStep (h : s.Inv) (e : packStep s = .next t) : t.Inv := by
  have hpack := h.pack.packStep e
  rw [packStep_frame e] at hpack ⊢
  exact ⟨h.tape, h.run, h.prep, h.halt, h.status, hpack⟩

end Pack

/-! ## A move of the host -/

section Host

variable {s : State}

theorem State.writeCfg_of_settled (h : s.status.settled = true) (c : Cfg) : s.writeCfg c = { s with cfg := c } :=
  if_pos h

theorem State.writeCfg_of_not_settled (h : ¬ s.status.settled = true) (c : Cfg) : s.writeCfg c = s := if_neg h

theorem State.startRun_of_settled (h : s.status.settled = true) :
    s.startRun = { s with fcause := .none, fpos := 0, imem := [], status := .load } := if_pos h

theorem State.startRun_of_not_settled (h : ¬ s.status.settled = true) : s.startRun = s := if_neg h

/-- The configuration is written only while no run executes (10_state.md R30). -/
theorem State.Inv.writeCfg (h : s.Inv) (c : Cfg) : (s.writeCfg c).Inv := by
  by_cases hs : s.status.settled = true
  · rw [writeCfg_of_settled hs]
    refine ⟨h.tape, fun hr => ?_, h.prep, h.halt, h.status, h.pack⟩
    rw [show s.status = .run from hr] at hs
    cases hs
  · rwa [writeCfg_of_not_settled hs]

theorem State.Inv.startRun (h : s.Inv) : s.startRun.Inv := by
  by_cases hs : s.status.settled = true
  · rw [startRun_of_settled hs]
    exact inv_of_no_program (by simp) (by simp) (by simp) h.tape
      ((statusOk_iff_clear (by simp) (by simp)).mpr ⟨rfl, rfl⟩) h.pack
  · rwa [startRun_of_not_settled hs]

/-- The operation matters to the packer's registers during a call only. -/
theorem State.Inv.writePop (h : s.Inv) (op : PackOp) : (s.writePop op).Inv := by
  by_cases hb : s.phase = .busy
  · rwa [writePop_of_busy hb]
  · rw [writePop_of_ne_busy hb]
    obtain ⟨hcnt, hacc, _, hfailed, hresid, hpad⟩ := h.pack
    exact ⟨h.tape, h.run, h.prep, h.halt, h.status, hcnt, hacc, fun hb' => absurd hb' hb, hfailed, hresid, hpad⟩

theorem State.Inv.beginCall (h : s.Inv) : s.beginCall.Inv := by
  by_cases hb : s.phase = .busy
  · rwa [beginCall_of_busy hb]
  · rw [beginCall_of_ne_busy hb]
    exact ⟨h.tape, h.run, h.prep, h.halt, h.status,
      (packOk_iff_of_busy rfl).mpr ⟨Nat.zero_le _, Nat.one_pos, rfl, rfl⟩⟩

/-- Reset leaves the values of the reset state on a tape of which nothing is known (10_state.md R43). -/
theorem State.hostReset_inv (s : State) : s.hostReset.Inv :=
  inv_of_no_program (by simp [hostReset]) (by simp [hostReset]) (by simp [hostReset]) (Memory.wf_unknown _)
    reset_statusOk reset_packOk

theorem State.Inv.hostStep (h : s.Inv) (m : HostMove) : (hostStep m s).Inv := by
  cases m with
  | writeW | writeN | writeWrap | writeEofMode | writeFill => exact h.writeCfg _
  | start => exact h.startRun
  | writePop op => exact h.writePop op
  | packStart => exact h.beginCall
  | reset => exact s.hostReset_inv
  | program | input | accept | packItem | wire => exact ⟨h.tape, h.run, h.prep, h.halt, h.status, h.pack⟩

end Host

/-- Whichever agent moves, and whatever `Supported` is, the invariant is kept. -/
theorem State.Inv.stepWith {supp : Config.Support} {s t : State} (h : s.Inv) (e : stepWith supp s = .next t) :
    t.Inv := by
  rcases stepWith_cases supp s with ⟨_, e'⟩ | ⟨_, _, e'⟩ | ⟨_, _, e'⟩ | ⟨m, _, _, e'⟩ <;> rw [e'] at e
  · exact h.runStep e
  · exact h.popTurn.runStep e
  · exact h.popTurn.packStep e
  · cases e
    exact h.popTurn.hostStep m

end Machine

/-- Settles O45: the run, the packer and the host each keep the invariant, update by update. -/
theorem stepKeepsInvariant : Obligations.StepKeepsInvariant := by
  intro s t h e
  exact h.stepWith e

end Sys2Proof
end

section
/-! PROOFS (42_execution_cycle.md R160, R162 to R165, R168, R170; 10_state.md R30). The moves of the host that are taken
between runs only, the steps of the loader, and how an instruction and a run end. -/

namespace Sys2Proof
namespace Machine

/-! ## Between runs (42_execution_cycle.md R160) -/

theorem Status.settled_iff {v : Status} :
    v.settled = true ↔ v = .idle ∨ v = .halted ∨ v = .faulted ∨ v = .refused := by
  cases v <;> simp [Status.settled]

theorem Status.not_settled_iff {v : Status} : ¬ v.settled = true ↔ v = .load ∨ v = .prep ∨ v = .run := by
  cases v <;> simp [Status.settled]

/-! ## The steps of the loader (42_execution_cycle.md R162, R163) -/

section Load

variable {supp : Config.Support} {s : State} {r : List ProgItem}

theorem loadStep_of_code {c : Code} (hq : s.progQ = .code c :: r) :
    loadStep supp s = { s with progQ := r, imem := s.imem ++ [c] } := by
  simp [loadStep, hq, State.consumeProgram, State.appendCode]

theorem loadStep_of_fin_supported (hq : s.progQ = .closed .fin :: r) (hsupp : supp s.cfg s.len = true) :
    loadStep supp s = { s with progQ := r, status := .prep, scan := 0, bstack := [], jt := [] } := by
  simp [loadStep, hq, hsupp, State.consumeProgram, State.beginPrep]

theorem loadStep_of_fin_unsupported (hq : s.progQ = .closed .fin :: r) (hsupp : supp s.cfg s.len = false) :
    loadStep supp s = { s with progQ := r, status := .refused, fcause := .unsupported } := by
  simp [loadStep, hq, hsupp, State.consumeProgram, State.refuse]

theorem loadStep_of_abort (hq : s.progQ = .closed .abort :: r) :
    loadStep supp s = { s with progQ := r, imem := [] }.raise .incompleteGroup s.len := by
  simp [loadStep, hq, State.consumeProgram, State.discardProgram]

end Load

/-! ## The steps of the run (42_execution_cycle.md R164, R165, R168) -/

section Run

variable {supp : Config.Support} {s t : State}

theorem stepWith_of_no_turns (h : s.turns = []) : stepWith supp s = runStep supp s := by simp [stepWith, h]

theorem stepWith_of_run_turn {ts : List Turn} (h : s.turns = .run :: ts) :
    stepWith supp s = runStep supp { s with turns := ts } := by
  simp [stepWith, h, State.popTurn]

theorem runStep_of_fetch (hs : s.status = .run) {i : Instr} (hf : s.fetch = some i) : runStep supp s = exec i s := by
  simp [runStep, hs, execStep, hf]

theorem runStep_at_end (hs : s.status = .run) (hpc : s.len ≤ s.pc) : runStep supp s = .next s.halt := by
  simp [runStep, hs, execStep, State.fetch_eq_none_iff.mpr hpc]

/-- An instruction leaves the status as it is, or is a move of the pointer that faults at its own position. -/
theorem exec_status {i : Instr} (h : exec i s = .next t) :
    t.status = s.status ∨ (i = .right ∨ i = .left) ∧ t = s.raise .pointerOutOfRange s.pc := by
  rcases exec_cases h with ⟨_, _, _, rfl⟩ | ⟨hi, rfl⟩ | ⟨_, _, _, rfl⟩ | ⟨_, rfl⟩ | ⟨_, _, rfl⟩ | ⟨_, rfl⟩ |
    ⟨_, rfl | rfl⟩ | ⟨_, _, _, _, rfl | rfl | rfl, rfl⟩ | ⟨_, rfl | rfl⟩
  -- The fault is the second case; no other writes the status.
  case inr.inl => exact .inr ⟨hi, rfl⟩
  all_goals exact .inl rfl

end Run

end Machine

open Machine

/-- Settles O41: an instruction that does not keep `RUN` has faulted as `>` or `<`, and in `FAULTED` no unit steps. -/
theorem onlyPointerMovesFault : Obligations.OnlyPointerMovesFault := by
  intro i s hs hp
  obtain ⟨t, h⟩ := exec_next hp i
  refine ⟨t, h, ?_⟩
  rcases exec_status h with hst | ⟨hi, rfl⟩
  · exact .inl (hst.trans hs)
  · exact .inr ⟨hi, rfl, rfl, rfl, rfl, fun supp => runStep_of_faulted supp rfl⟩

/-- Settles O22: all six moves look at whether a run is in progress first. -/
theorem startAndConfigureOnlyBetweenRuns : Obligations.StartAndConfigureOnlyBetweenRuns := by
  intro s
  refine ⟨fun h => ?_, fun h => ?_⟩
  · have hs := Status.settled_iff.mpr h
    have hw := State.writeCfg_of_settled hs
    exact ⟨State.startRun_of_settled hs, fun _ => hw _, fun _ => hw _, fun _ => hw _, fun _ => hw _, fun _ => hw _⟩
  · have hs := Status.not_settled_iff.mpr h
    have hw := State.writeCfg_of_not_settled hs
    exact ⟨State.startRun_of_not_settled hs, fun _ => hw _, fun _ => hw _, fun _ => hw _, fun _ => hw _, fun _ => hw _⟩

/-- Settles O23: in `LOAD` the run steps as the loader does, item by item. -/
theorem loaderConsumesProgramPort : Obligations.LoaderConsumesProgramPort := by
  intro supp s hs
  rw [runStep_of_load supp hs]
  exact ⟨fun _ _ hq => by rw [loadStep_of_code hq], fun _ hq hn => by rw [loadStep_of_fin_unsupported hq hn],
    fun _ hq hy => by rw [loadStep_of_fin_supported hq hy]⟩

/-- Settles O24: the abort discards the program and raises the fault. -/
theorem loadAbortDiscardsProgram : Obligations.LoadAbortDiscardsProgram := by
  intro supp s r hs hq
  rw [runStep_of_load supp hs, loadStep_of_abort hq]
  exact ⟨_, rfl, rfl, rfl, rfl, rfl, rfl, rfl, rfl⟩

/-- Settles O26: with no turn listed or the run's own, the step is that of the run, which fetches the code at `PC`. -/
theorem stepRunsDecodedInstruction : Obligations.StepRunsDecodedInstruction := by
  intro s c hs hc
  have hf : s.fetch = some (decode c) := by simp [State.fetch, hc]
  refine ⟨fun ht => ?_, fun ts ht => ?_⟩
  · exact (stepWith_of_no_turns ht).trans (runStep_of_fetch hs hf)
  · exact (stepWith_of_run_turn ht).trans (runStep_of_fetch (s := { s with turns := ts }) hs hf)

/-- Settles O27: past the end there is no instruction to fetch, and no instruction leaves `RUN` but by a fault. -/
theorem runHaltsAtProgramEnd : Obligations.RunHaltsAtProgramEnd := by
  intro supp s hs hpc
  refine ⟨runStep_at_end hs hpc, State.observeFinal_of_halted rfl, fun i u t hu h => ?_⟩
  rcases exec_status h with hst | ⟨_, rfl⟩
  · simp [hst, hu]
  · simp

end Sys2Proof
end

section
/-! PROOFS (42_execution_cycle.md R162, R163 with 40_packer.md R112, R115, R131). A load through the packer: the call
puts the codes and its close on the program port, and the loader takes them from there. -/

namespace Sys2Proof
namespace Machine

variable {supp : Config.Support} {s : State}

/-! ## A packer call followed by other turns -/

/-- A call that takes a whole stream and its end, whoever moves afterwards. -/
theorem PackOp.Does.run_call {α : Type} {op : PackOp} {port : α → PackItem} {act : State → α → State}
    {last : State → State} (d : op.Does port act last) (supp : Config.Support) (n : Nat) (hb : s.phase = .busy)
    (hp : s.pop = op) {xs : List α} {rest : List PackItem} {ts : List Turn} (hq : s.packQ = xs.map port ++ .fin :: rest)
    (hts : s.turns = List.replicate (xs.length + 1) .pack ++ ts) :
    (coreWith supp).run (xs.length + 1 + n) s =
      (coreWith supp).run n ((last (xs.foldl act s)).withQueues rest ts) := by
  obtain ⟨hb', hp'⟩ := d.foldl_keeps hb hp xs
  have hs : s = s.withQueues (xs.map port ++ .fin :: rest) (List.replicate xs.length .pack ++ .pack :: ts) := by
    rw [← hq, List.append_cons, ← List.replicate_succ', ← hts]
    rfl
  have hitems := d.run_items supp (n + 1) hb hp xs (.fin :: rest) (.pack :: ts)
  rw [← hs] at hitems
  rw [Nat.add_assoc, Nat.add_comm 1 n]
  exact hitems.trans (run_packItem rest ts supp n hb' (d.fin _ hp'))

/-- Codes that are emitted join the program port where the packer feeds it (log 12). -/
theorem emitAll_codes (hw : s.wired = true) (c : List Code) :
    s.emitAll (c.map .code) =
      { s with packOut := s.packOut ++ c.map .code, progQ := s.progQ ++ c.map .code } := by
  induction c generalizing s with
  | nil => simp [State.emitAll]
  | cons x c ih =>
    have h : s.emitAll ((x :: c).map .code) = (s.emit (.code x)).emitAll (c.map .code) := rfl
    rw [h, ih (s := s.emit (.code x)) hw]
    simp [State.emit, hw]

/-- The state after a call of `B2I` on the bits of the codes `c` and a rest, where the packer feeds the program port: the
codes are there and `end`, or on a rest `abort`, which leaves the rest in the group and reports it (40_packer.md R114,
R115). -/
def State.afterB2i (s : State) (c : List Code) : List Bit → State
  | [] =>
    { s with
      acc := 0, cnt := 0, phase := .done
      packOut := s.packOut ++ c.map .code, packClose := some .fin
      progQ := s.progQ ++ (c.map .code ++ [.closed .fin]) }
  | b :: r =>
    { s with
      acc := groupValue 0 (b :: r), cnt := (b :: r).length, phase := .failed, resid := (b :: r).length
      packOut := s.packOut ++ c.map .code, packClose := some .abort
      progQ := s.progQ ++ (c.map .code ++ [.closed .abort]) }

theorem b2i_call (hw : s.wired = true) (hp : s.pop = .b2i) (hacc : s.acc = 0) (hcnt : s.cnt = 0) (c : List Code)
    {r : List Bit} (hr : r.length < 3) :
    ((i2b c ++ r).foldl (fun u b => u.takeBit 3 groupCode b) s).endB2i = s.afterB2i c r := by
  rw [foldl_b2i c hr hacc hcnt, emitAll_codes hw]
  cases r with
  | nil =>
    rw [State.endB2i_boundary rfl, State.closeOut_of_b2i]
    · simp [State.afterB2i, State.setGroup, State.setPhase, groupValue, hw]
    · exact hp
  | cons b r =>
    rw [State.endB2i_short (Nat.succ_ne_zero _), State.closeOut_of_b2i]
    · simp [State.afterB2i, State.setGroup, State.setPhase, hw]
    · exact hp

/-! ## A load as a run of the loader's steps -/

theorem step_of_load_turn {ts : List Turn} (hs : s.status = .load) (ht : s.turns = .run :: ts) :
    (coreWith supp).step s = .next (loadStep supp { s with turns := ts }) :=
  (stepWith_of_run_turn ht).trans (runStep_of_load supp hs)

theorem step_load_code {c : Code} {q : List ProgItem} {ts : List Turn} (hs : s.status = .load)
    (hq : s.progQ = .code c :: q) (ht : s.turns = .run :: ts) :
    (coreWith supp).step s = .next { s with imem := s.imem ++ [c], progQ := q, turns := ts } := by
  rw [step_of_load_turn hs ht, loadStep_of_code (s := { s with turns := ts }) hq]

/-- As many turns of the run as there are codes at the program port append them to `IMEM`. -/
theorem run_load_codes (n : Nat) {cs : List Code} {q : List ProgItem} {ts : List Turn} (hs : s.status = .load)
    (hq : s.progQ = cs.map .code ++ q) (ht : s.turns = List.replicate cs.length .run ++ ts) :
    (coreWith supp).run (cs.length + n) s =
      (coreWith supp).run n { s with imem := s.imem ++ cs, progQ := q, turns := ts } := by
  induction cs generalizing s with
  | nil =>
    rw [List.map_nil, List.nil_append] at hq
    rw [List.length_nil, List.replicate_zero, List.nil_append] at ht
    rw [List.length_nil, Nat.zero_add, List.append_nil, ← hq, ← ht]
  | cons c cs ih =>
    have hlen : (c :: cs).length + n = cs.length + n + 1 := by rw [List.length_cons]; omega
    rw [hlen, List.append_cons]
    exact (run_succ_of_next (step_load_code hs hq ht) _).trans (ih hs rfl rfl)

/-- A whole load, up to what the loader does at the close of the stream. -/
theorem run_load {cs : List Code} {how : Close} (hs : s.status = .load)
    (hq : s.progQ = cs.map .code ++ [.closed how]) (ht : s.turns = List.replicate (cs.length + 1) .run) :
    (coreWith supp).run (cs.length + 1) s =
      .next (loadStep supp { s with imem := s.imem ++ cs, progQ := [.closed how], turns := [] }) := by
  rw [List.replicate_succ'] at ht
  refine (run_load_codes 1 hs hq ht).trans (run_succ_of_next ?_ 0)
  exact step_of_load_turn (s := { s with imem := s.imem ++ cs, progQ := [.closed how], turns := [.run] }) hs rfl

/-- A load that ends in `end` scans or is refused, as `Supported` says of its length (42_execution_cycle.md R162). -/
theorem run_load_fin {cs : List Code} (hs : s.status = .load) (himem : s.imem = [])
    (hq : s.progQ = cs.map .code ++ [.closed .fin]) (ht : s.turns = List.replicate (cs.length + 1) .run) :
    ∃ t, (coreWith supp).run (cs.length + 1) s = .next t ∧ t.sink = s.sink ∧ t.inQ = s.inQ ∧ t.progQ = [] ∧
      t.imem = cs ∧
      (supp s.cfg cs.length = true → t.status = .prep ∧ t.scan = 0 ∧ t.bstack = []) ∧
      (supp s.cfg cs.length = false → t.status = .refused ∧ t.fcause = .unsupported ∧ t.fpos = s.fpos) := by
  refine ⟨_, run_load hs hq ht, ?_⟩
  rw [himem, List.nil_append]
  cases hsupp : supp s.cfg cs.length with
  | true => rw [loadStep_of_fin_supported rfl hsupp]; simp
  | false => rw [loadStep_of_fin_unsupported rfl hsupp]; simp

/-- A load that ends in `abort` faults at the number of codes received (42_execution_cycle.md R163). -/
theorem run_load_abort {cs : List Code} (hs : s.status = .load) (himem : s.imem = [])
    (hq : s.progQ = cs.map .code ++ [.closed .abort]) (ht : s.turns = List.replicate (cs.length + 1) .run) :
    ∃ t, (coreWith supp).run (cs.length + 1) s = .next t ∧ t.sink = s.sink ∧ t.inQ = s.inQ ∧ t.progQ = [] ∧
      t.status = .faulted ∧ t.fcause = .incompleteGroup ∧ t.fpos = cs.length ∧ t.resid = s.resid := by
  refine ⟨_, run_load hs hq ht, ?_⟩
  rw [himem, List.nil_append, loadStep_of_abort rfl]
  exact ⟨rfl, rfl, rfl, rfl, rfl, rfl, rfl⟩

end Machine

open Machine

/-- Settles O14: the packer puts the whole codes on the program port and closes it, by `end` or, on a rest, by `abort`;
the loader takes the codes, and what it does at the close is the outcome. -/
theorem loadThroughPacker : Obligations.LoadThroughPacker := by
  intro supp s bits hs himem hprog hw hb hp hacc hcnt hq hts
  obtain ⟨c, r, rfl, hr⟩ := exists_i2b_append bits
  have hlen : (i2b c ++ r).length / 3 = c.length := by rw [List.length_append, i2b_length]; omega
  rw [hlen] at hts ⊢
  have hcall := b2i_does.run_call supp (c.length + 1) hb hp hq hts
  rw [b2i_call hw hp hacc hcnt c hr] at hcall
  cases r with
  | nil =>
    have hok : b2i (i2b c ++ []) = .ok c := by rw [List.append_nil, b2i_i2b]
    obtain ⟨t, hrun, hsink, hin, hport, hload, hyes, hno⟩ := run_load_fin (supp := supp) (cs := c)
      (s := (s.afterB2i c []).withQueues [] (List.replicate (c.length + 1) .run)) hs himem
      (congrArg (· ++ _) hprog) rfl
    refine ⟨t, hcall.trans hrun, hsink, hin, hport, fun c' hc => ?_, fun k hk => ?_⟩
    · cases hok.symm.trans hc
      exact ⟨hload, hyes, hno⟩
    · cases hok.symm.trans hk
  | cons b r =>
    have herror := b2i_i2b_append_short c (List.cons_ne_nil b r) hr
    obtain ⟨t, hrun, hsink, hin, hport, hfault, hcause, hpos, hresid⟩ := run_load_abort (supp := supp) (cs := c)
      (s := (s.afterB2i c (b :: r)).withQueues [] (List.replicate (c.length + 1) .run)) hs himem
      (congrArg (· ++ _) hprog) rfl
    refine ⟨t, hcall.trans hrun, hsink, hin, hport, fun c' hc => ?_, fun k hk => ?_⟩
    · cases herror.symm.trans hc
    · cases herror.symm.trans hk
      exact ⟨hfault, hcause, hpos, hresid⟩

end Sys2Proof
end

section
/-! PROOFS (43_pointer.md R181, R183). Where a move of the pointer lands by the range policy, and what `>` does with
it. -/

namespace Sys2Proof
namespace Machine

variable {c : Cfg} {p : Int}

theorem validIndex_of_fixed (hn : 0 < c.n) : validIndex c p = true ↔ 0 ≤ p ∧ p < (c.n : Int) := by
  simp [validIndex, hn]

theorem validIndex_of_dynamic (hn : ¬0 < c.n) : validIndex c p = true ↔ c.wrap = true ∨ 0 ≤ p := by
  simp [validIndex, hn]

/-- The range policy looks at `PTR + d` alone: an index of the tape is where the move lands, any
other is reduced with wraparound and a fault without it (43_pointer.md R183). -/
theorem moveTarget_eq (c : Cfg) (p d : Int) :
    moveTarget c p d =
      if validIndex c (p + d) = true then some (p + d)
      else if c.wrap = true then some ((p + d) % (c.n : Int)) else none := by
  unfold moveTarget
  by_cases hn : 0 < c.n
  · simp only [if_pos hn, validIndex_of_fixed hn]
    by_cases hr : 0 ≤ p + d ∧ p + d < (c.n : Int)
    · simp [hr, Int.emod_eq_of_lt hr.1 hr.2]
    · simp [hr]
  · simp only [if_neg hn, validIndex_of_dynamic hn]
    cases c.wrap <;> simp

/-- To the right of an index of the tape stands another, but at the right end of a fixed tape. -/
theorem validIndex_add_one (hp : validIndex c p = true) :
    validIndex c (p + 1) = true ↔ ¬(0 < c.n ∧ p = (c.n : Int) - 1) := by
  by_cases hn : 0 < c.n
  · rw [validIndex_of_fixed hn] at hp ⊢
    omega
  · rw [validIndex_of_dynamic hn] at hp ⊢
    exact iff_of_true (hp.imp_right fun h => by omega) fun h => hn h.1

theorem moveTarget_one (hp : validIndex c p = true) (he : ¬(0 < c.n ∧ p = (c.n : Int) - 1)) :
    moveTarget c p 1 = some (p + 1) := by
  rw [moveTarget_eq, if_pos ((validIndex_add_one hp).2 he)]

/-- One step to the right of the right end of a fixed tape is index 0, or nowhere without wraparound. -/
theorem moveTarget_one_of_right_end (hn : 0 < c.n) (he : p = (c.n : Int) - 1) :
    moveTarget c p 1 = if c.wrap = true then some 0 else none := by
  have hout : ¬validIndex c (p + 1) = true := by rw [validIndex_of_fixed hn]; omega
  rw [moveTarget_eq, if_neg hout, he, Int.sub_add_cancel, Int.emod_self]

theorem movePointer_of_some {d q : Int} {s : State} (h : moveTarget s.cfg s.ptr d = some q) :
    movePointer d s = .next (s.setPtr q).advance := by
  simp [movePointer, h]

theorem movePointer_of_none {d : Int} {s : State} (h : moveTarget s.cfg s.ptr d = none) :
    movePointer d s = .next (s.raise .pointerOutOfRange s.pc) := by
  simp [movePointer, h]

end Machine

open Machine

/-- Settles O28: at the right end of a fixed tape the wraparound flag decides between 0 and the fault, everywhere else
the next index is one of the tape. -/
theorem rightMovesOrFaults : Obligations.RightMovesOrFaults := by
  refine ⟨rfl, fun s hp => ⟨?fault, ?move⟩⟩
  case fault =>
    rintro ⟨hn, hw, he⟩
    have htarget : moveTarget s.cfg s.ptr 1 = none := by simp [moveTarget_one_of_right_end hn he, hw]
    exact ⟨_, movePointer_of_none htarget, State.raise_status .., State.raise_fcause ..⟩
  case move =>
    intro hfault
    by_cases he : 0 < s.cfg.n ∧ s.ptr = (s.cfg.n : Int) - 1
    · rw [if_pos he]
      obtain ⟨hn, he⟩ := he
      have hw : s.cfg.wrap = true := eq_true_of_ne_false fun hw => hfault ⟨hn, hw, he⟩
      have htarget : moveTarget s.cfg s.ptr 1 = some 0 := by simp [moveTarget_one_of_right_end hn he, hw]
      exact movePointer_of_some htarget
    · rw [if_neg he]
      exact movePointer_of_some (moveTarget_one hp he)

end Sys2Proof
end

section
/-! PROOFS (44_cell_arith.md R190 to R193). Any number of `+` and `-` on one cell come to one store of the reduced sum,
because reducing in between makes no difference; each statement about `+` and `-` reads that store. -/

namespace Sys2Proof
namespace Machine

/-- A second store to the same cell replaces the first. -/
theorem Memory.write_write {m : Memory} (h : m.wf) (i v w : Int) : (m.write i v).write i w = m.write i w := by
  have hv : (m.write i v).wf := wf_write h i v
  refine ext_read (wf_write hv i w) (wf_write h i w) rfl fun j => ?_
  rw [read_write hv, read_write h, read_write h]
  by_cases hij : i = j <;> simp only [hij, if_true, if_false]

/-- Storing what the cell holds changes nothing. -/
theorem Memory.write_read {m : Memory} (h : m.wf) (i : Int) : m.write i (m.read i) = m := by
  refine ext_read (wf_write h i _) h rfl fun j => ?_
  rw [read_write h]
  split
  · subst j
    rfl
  · rfl

/-- One turn around the cell width makes no difference. -/
theorem norm_add_two_pow {w : Nat} (hw : 0 < w) (v : Int) : norm w (v + ((2 ^ w : Nat) : Int)) = norm w v := by
  rw [norm_of_pos hw, norm_of_pos hw, Int.add_emod_right]

/-- The state after `n` instructions that add `d` in all to the current cell. -/
def State.afterAdds (s : State) (n : Nat) (d : Int) : State :=
  { s with pc := s.pc + n, tape := s.tape.write s.ptr (norm s.cfg.w (s.tape.read s.ptr + d)) }

section Adds
variable {s : State}

@[simp] theorem State.afterAdds_cfg (n : Nat) (d : Int) : (s.afterAdds n d).cfg = s.cfg := rfl

@[simp] theorem State.afterAdds_ptr (n : Nat) (d : Int) : (s.afterAdds n d).ptr = s.ptr := rfl

@[simp] theorem State.afterAdds_tape (n : Nat) (d : Int) :
    (s.afterAdds n d).tape = s.tape.write s.ptr (norm s.cfg.w (s.tape.read s.ptr + d)) := rfl

theorem exec_inc (hv : validIndex s.cfg s.ptr = true) : exec .inc s = .next (s.afterAdds 1 1) :=
  addToCell_of_valid hv 1

theorem exec_dec (hv : validIndex s.cfg s.ptr = true) : exec .dec s = .next (s.afterAdds 1 (-1)) :=
  addToCell_of_valid hv (-1)

variable (hwf : s.tape.wf)
include hwf

theorem State.afterAdds_read_ptr (n : Nat) (d : Int) :
    (s.afterAdds n d).tape.read s.ptr = norm s.cfg.w (s.tape.read s.ptr + d) := by
  rw [afterAdds_tape, Memory.read_write hwf, if_pos rfl]

theorem State.afterAdds_read_ptr_of_pos (hw : 0 < s.cfg.w) (n : Nat) (d : Int) :
    (s.afterAdds n d).tape.read s.ptr = (s.tape.read s.ptr + d) % ((2 ^ s.cfg.w : Nat) : Int) := by
  rw [afterAdds_read_ptr hwf, norm_of_pos hw]

theorem State.afterAdds_read_ptr_of_zero (hw : s.cfg.w = 0) (n : Nat) (d : Int) :
    (s.afterAdds n d).tape.read s.ptr = s.tape.read s.ptr + d := by
  rw [afterAdds_read_ptr hwf, hw, norm_zero]

theorem State.afterAdds_read_of_ne {i : Int} (hi : i ≠ s.ptr) (n : Nat) (d : Int) :
    (s.afterAdds n d).tape.read i = s.tape.read i := by
  rw [afterAdds_tape, Memory.read_write hwf, if_neg hi.symm]

/-- Additions to one cell add up: the reduction in between is lost in the last one, and so is the store. -/
theorem State.afterAdds_afterAdds (m n : Nat) (d e : Int) :
    (s.afterAdds m d).afterAdds n e = s.afterAdds (m + n) (d + e) := by
  have hsum : norm s.cfg.w ((s.afterAdds m d).tape.read s.ptr + e) = norm s.cfg.w (s.tape.read s.ptr + (d + e)) := by
    rw [afterAdds_read_ptr hwf, norm_norm_add, Int.add_assoc]
  rw [afterAdds, afterAdds_cfg, afterAdds_ptr, hsum, afterAdds_tape, Memory.write_write hwf, afterAdds, afterAdds,
    Nat.add_assoc]

/-- Additions whose reduced sum is the old value of the cell leave the whole tape as it was. -/
theorem State.afterAdds_of_norm_eq {d : Int} (hd : norm s.cfg.w (s.tape.read s.ptr + d) = s.tape.read s.ptr) (n : Nat) :
    s.afterAdds n d = { s with pc := s.pc + n } := by
  rw [afterAdds, hd, Memory.write_read hwf]

/-- Additions of 0 in all leave the tape as it was, when the cell has the cell width. -/
theorem State.afterAdds_zero
    (hc : 0 < s.cfg.w → 0 ≤ s.tape.read s.ptr ∧ s.tape.read s.ptr < ((2 ^ s.cfg.w : Nat) : Int)) (n : Nat) :
    s.afterAdds n 0 = { s with pc := s.pc + n } :=
  afterAdds_of_norm_eq hwf (by rw [Int.add_zero, norm_of_range hc]) n

theorem exec_inc_afterAdds (hv : validIndex s.cfg s.ptr = true) (n : Nat) (d : Int) :
    exec .inc (s.afterAdds n d) = .next (s.afterAdds (n + 1) (d + 1)) := by
  rw [exec_inc (s := s.afterAdds n d) hv, State.afterAdds_afterAdds hwf]

theorem exec_dec_afterAdds (hv : validIndex s.cfg s.ptr = true) (n : Nat) (d : Int) :
    exec .dec (s.afterAdds n d) = .next (s.afterAdds (n + 1) (d + -1)) := by
  rw [exec_dec (s := s.afterAdds n d) hv, State.afterAdds_afterAdds hwf]

theorem execTimes_inc_afterAdds (hv : validIndex s.cfg s.ptr = true) (k n : Nat) (d : Int) :
    execTimes .inc k (s.afterAdds n d) = .next (s.afterAdds (n + k) (d + k)) := by
  induction k generalizing n d with
  | zero => rw [execTimes, Nat.add_zero, Int.natCast_zero, Int.add_zero]
  | succ k ih =>
    simp only [execTimes, exec_inc_afterAdds hwf hv, ih]
    rw [Nat.add_right_comm, Nat.add_assoc, Int.add_right_comm, Int.add_assoc, Int.natCast_succ]

/-- `k` consecutive `+`: a cell of the cell width is what adding 0 leaves, and the run goes on from there. -/
theorem execTimes_inc (hv : validIndex s.cfg s.ptr = true)
    (hc : 0 < s.cfg.w → 0 ≤ s.tape.read s.ptr ∧ s.tape.read s.ptr < ((2 ^ s.cfg.w : Nat) : Int)) (k : Nat) :
    execTimes .inc k s = .next (s.afterAdds k k) := by
  have hstart : s.afterAdds 0 0 = s := State.afterAdds_zero hwf hc 0
  calc execTimes .inc k s
    _ = execTimes .inc k (s.afterAdds 0 0) := by rw [hstart]
    _ = .next (s.afterAdds (0 + k) (0 + k)) := execTimes_inc_afterAdds hwf hv k 0 0
    _ = .next (s.afterAdds k k) := by rw [Nat.zero_add, Int.zero_add]

end Adds

end Machine

open Machine

/-- Settles O30: `+` is one addition of 1. -/
theorem incAddsOneToCurrentCell : Obligations.IncAddsOneToCurrentCell :=
  ⟨rfl, fun s hv hwf => ⟨s.afterAdds 1 1, exec_inc hv, rfl,
    fun hw => State.afterAdds_read_ptr_of_pos hwf hw 1 1, fun hw => State.afterAdds_read_ptr_of_zero hwf hw 1 1,
    fun _ hi => State.afterAdds_read_of_ne hwf hi 1 1⟩⟩

/-- Settles O31: `-` is one addition of -1, and what `Norm` gives is not negative. -/
theorem decSubtractsOneFromCurrentCell : Obligations.DecSubtractsOneFromCurrentCell := by
  refine ⟨rfl, fun s hv hwf => ⟨s.afterAdds 1 (-1), exec_dec hv, rfl, fun hw => ⟨?reduced, ?nonneg⟩,
    fun hw => State.afterAdds_read_ptr_of_zero hwf hw 1 (-1), fun _ hi => State.afterAdds_read_of_ne hwf hi 1 (-1)⟩⟩
  case reduced => exact State.afterAdds_read_ptr_of_pos hwf hw 1 (-1)
  case nonneg =>
    rw [State.afterAdds_read_ptr hwf]
    exact (norm_range hw _).1

/-- Settles O32: the two additions come to two instructions that add 0. -/
theorem incAndDecUndoEachOther : Obligations.IncAndDecUndoEachOther := by
  intro s hv hwf hc
  have hzero : s.afterAdds 2 0 = { s with pc := s.pc + 2 } := State.afterAdds_zero hwf hc 2
  constructor
  · refine ⟨_, exec_inc hv, ?_⟩
    rw [← hzero]
    exact exec_dec_afterAdds hwf hv 1 1
  · refine ⟨_, exec_dec hv, ?_⟩
    rw [← hzero]
    exact exec_inc_afterAdds hwf hv 1 (-1)

/-- Settles O33: `k` times `+` adds `k` in all, and adding `2^W` is one turn around the cell width. -/
theorem repeatedIncCountsModuloWidth : Obligations.RepeatedIncCountsModuloWidth := by
  refine fun s hv hwf hc => ⟨fun k => ?count, fun hw => ?turn⟩
  case count =>
    exact ⟨s.afterAdds k k, execTimes_inc hwf hv hc k, rfl,
      fun hw => State.afterAdds_read_ptr_of_pos hwf hw k k, fun hw => State.afterAdds_read_ptr_of_zero hwf hw k k⟩
  case turn =>
    have hturn : norm s.cfg.w (s.tape.read s.ptr + ((2 ^ s.cfg.w : Nat) : Int)) = s.tape.read s.ptr := by
      rw [norm_add_two_pow hw, norm_of_range hc]
    rw [execTimes_inc hwf hv hc, State.afterAdds_of_norm_eq hwf hturn]

end Sys2Proof
end

section
/-! PROOFS (45_io.md R209). The two waits of a run for its host: the sink gives no acceptance for a `.`, the source
no answer for a `,`. -/

namespace Sys2Proof
namespace Machine

variable {s : State}

/-- With `PTR` in range a `.` hangs on the host's acceptance alone (45_io.md R201, R209). -/
theorem exec_out_of_valid (hv : validIndex s.cfg s.ptr = true) :
    exec .out s =
      if s.credit = 0 then .next s else .next (s.deliver (outByte (s.tape.read s.ptr))).advance := by
  simp only [exec, execOut, withCell_of_valid hv]

/-- No item is there to be received exactly while the source is asked and has not answered. -/
theorem takeInput_eq_none_iff : takeInput s = none ↔ s.ineof = false ∧ s.inQ = [] := by
  obtain ⟨heof, ht⟩ | ⟨heof, hq, ht⟩ | ⟨x, r, heof, hq, ht⟩ := takeInput_cases s
  · simp [heof, ht]
  · simp [heof, hq, ht]
  · simp [hq, ht]

theorem exec_in_of_takeInput_eq_none (h : takeInput s = none) : exec .in_ s = .next s := by
  simp only [exec, execIn, h]

end Machine

open Machine

/-- Settles O37: the `.` finds no acceptance to use up, the `,` no item to receive. -/
theorem waitingInstructionsHold : Obligations.WaitingInstructionsHold := by
  refine fun s => ⟨fun hv hcredit => ?out, fun heof hempty => ?in_⟩
  case out => rw [exec_out_of_valid hv, if_pos hcredit]
  case in_ => exact exec_in_of_takeInput_eq_none (takeInput_eq_none_iff.2 ⟨heof, hempty⟩)

end Sys2Proof
end

section
/-! PROOFS (46_loop_control.md R216, R217). A bracket writes `PC` alone: one past `JT[PC]` where its test makes it
jump, one more where it falls through (R218). -/

namespace Sys2Proof
namespace Machine

variable {s : State}

theorem State.jump_of_assocGet?_eq_some {i j : Nat} (h : assocGet? s.jt i = some j) : s.jump i = j := by
  rw [State.jump, h, Option.getD_some]

/-- The bracket effect on `PC` as one value (46_loop_control.md R218). -/
theorem branch_eq_setPc (jumps : Bool) (s : State) :
    branch jumps s = s.setPc (if jumps then s.jump s.pc + 1 else s.pc + 1) := by
  cases jumps with
  | true => rfl
  | false => rfl

theorem cellIsZero_iff {v : Int} : cellIsZero v = true ↔ v = 0 := beq_iff_eq

theorem not_cellIsZero_iff {v : Int} : (!cellIsZero v) = true ↔ v ≠ 0 := by
  rw [Bool.not_eq_true', ← Bool.not_eq_true, cellIsZero_iff]

theorem exec_open_of_valid (hv : validIndex s.cfg s.ptr = true) :
    exec .open_ s = .next (s.setPc (if s.tape.read s.ptr = 0 then s.jump s.pc + 1 else s.pc + 1)) := by
  simp only [exec, execOpen, withCell_of_valid hv, branch_eq_setPc, cellIsZero_iff]

theorem exec_close_of_valid (hv : validIndex s.cfg s.ptr = true) :
    exec .close s = .next (s.setPc (if s.tape.read s.ptr ≠ 0 then s.jump s.pc + 1 else s.pc + 1)) := by
  simp only [exec, execClose, withCell_of_valid hv, branch_eq_setPc, not_cellIsZero_iff]

end Machine

open Machine

/-- Settles O38: where `[` jumps, it reads the entry that `JT` holds at `PC`. -/
theorem openJumpsOnZero : Obligations.OpenJumpsOnZero := by
  refine ⟨rfl, fun s j hv hj => ?_⟩
  rw [exec_open_of_valid hv, State.jump_of_assocGet?_eq_some hj]
  rfl

/-- Settles O39: where `]` jumps, it reads the entry that `JT` holds at `PC`. -/
theorem closeJumpsOnNonZero : Obligations.CloseJumpsOnNonZero := by
  refine ⟨rfl, fun s j hv hj => ?_⟩
  rw [exec_close_of_valid hv, State.jump_of_assocGet?_eq_some hj]
  rfl

/-- Settles O40: both brackets answer a write to `PC`, whatever value `JT` gives for the jump. -/
theorem bracketsWriteOnlyPc : Obligations.BracketsWriteOnlyPc := by
  intro i s hi hv
  obtain rfl | rfl := hi
  · exact ⟨_, exec_open_of_valid hv, rfl, fun _ hne => if_neg hne, nofun⟩
  · exact ⟨_, exec_close_of_valid hv, rfl, nofun, fun _ h0 => if_neg (not_not_intro h0)⟩

end Sys2Proof
end

section
/-! PROOFS (60_exceptions.md R241; 70_reset_and_hazards.md R266; 10_state.md R30). What each agent leaves alone of a run
that has ended and of one in progress. -/

namespace Sys2Proof
namespace Machine

/-! ## The moves of the host -/

section Host

variable {m : HostMove} {s : State}

theorem State.writeCfg_frame (s : State) (c : Cfg) : s.writeCfg c = { s with cfg := (s.writeCfg c).cfg } := by
  unfold State.writeCfg
  split <;> rfl

theorem State.writePop_frame (s : State) (op : PackOp) : s.writePop op = { s with pop := (s.writePop op).pop } := by
  unfold State.writePop
  split <;> rfl

theorem State.beginCall_frame (s : State) :
    s.beginCall = { s with
      acc := s.beginCall.acc, cnt := s.beginCall.cnt, pad := s.beginCall.pad, resid := s.beginCall.resid
      phase := s.beginCall.phase, packOut := s.beginCall.packOut, packClose := s.beginCall.packClose } := by
  unfold State.beginCall
  split <;> rfl

/-- Only the start command and reset write the run's own state, the program, the table and the status registers
(60_exceptions.md R251). -/
theorem hostStep_frame (hstart : m ≠ .start) (hreset : m ≠ .reset) (s : State) :
    hostStep m s = { s with
      cfg := (hostStep m s).cfg, pop := (hostStep m s).pop, acc := (hostStep m s).acc, cnt := (hostStep m s).cnt
      phase := (hostStep m s).phase, pad := (hostStep m s).pad, resid := (hostStep m s).resid
      inQ := (hostStep m s).inQ, credit := (hostStep m s).credit, progQ := (hostStep m s).progQ
      packQ := (hostStep m s).packQ, packOut := (hostStep m s).packOut, packClose := (hostStep m s).packClose
      wired := (hostStep m s).wired } := by
  cases m with
  | start => exact absurd rfl hstart
  | reset => exact absurd rfl hreset
  | writeW | writeN | writeWrap | writeEofMode | writeFill =>
    dsimp only [hostStep]
    rw [State.writeCfg_frame]
  | writePop op =>
    dsimp only [hostStep]
    rw [State.writePop_frame]
  | packStart =>
    dsimp only [hostStep]
    rw [State.beginCall_frame]
  | program | input | accept | packItem | wire => rfl

/-- While a run is in progress the host changes neither the configuration, the program nor the table, short of reset
(10_state.md R30, 42_execution_cycle.md R160). -/
theorem hostStep_keeps_program (hs : ¬ s.status.settled = true) (hreset : m ≠ .reset) :
    (hostStep m s).cfg = s.cfg ∧ (hostStep m s).imem = s.imem ∧ (hostStep m s).jt = s.jt := by
  cases m with
  | reset => exact absurd rfl hreset
  | start =>
    dsimp only [hostStep]
    rw [State.startRun_of_not_settled hs]
    exact ⟨rfl, rfl, rfl⟩
  | writeW | writeN | writeWrap | writeEofMode | writeFill =>
    dsimp only [hostStep]
    rw [State.writeCfg_of_not_settled hs]
    exact ⟨rfl, rfl, rfl⟩
  | writePop op =>
    dsimp only [hostStep]
    rw [State.writePop_frame]
    exact ⟨rfl, rfl, rfl⟩
  | packStart =>
    dsimp only [hostStep]
    rw [State.beginCall_frame]
    exact ⟨rfl, rfl, rfl⟩
  | program | input | accept | packItem | wire => exact ⟨rfl, rfl, rfl⟩

end Host

/-! ## The run -/

section Run

variable {supp : Config.Support} {s t : State}

/-- A run that has ended does not move (60_exceptions.md R236). -/
theorem runStep_of_ended (hs : s.status = .faulted ∨ s.status = .refused ∨ s.status = .halted) :
    runStep supp s = .next s := by
  rcases hs with hs | hs | hs <;> simp [runStep, hs]

/-- `EXEC` writes neither the configuration nor the program, and the jump table by a fault only (41_jump_table.md
R151). -/
theorem execStep_keeps_program (hs : s.status = .run) (h : execStep s = .next t) :
    t.cfg = s.cfg ∧ t.imem = s.imem ∧ (t.status ≠ .faulted → t.jt = s.jt) := by
  unfold execStep at h
  split at h
  · rename_i i _
    have hframe := exec_frame h
    refine ⟨by rw [hframe], by rw [hframe], fun hf => ?_⟩
    rcases exec_status h with hst | ⟨_, rfl⟩
    · exact (exec_keeps_tables h (hst.trans hs)).1
    · exact absurd rfl hf
  · cases h
    exact ⟨rfl, rfl, fun _ => rfl⟩

/-- What a step of the run keeps of the configuration, the program and the table, phase by phase. -/
theorem runStep_keeps_program (h : runStep supp s = .next t) :
    (s.status = .load ∨ s.status = .prep ∨ s.status = .run → t.cfg = s.cfg) ∧
    (s.status = .prep ∨ s.status = .run → t.imem = s.imem) ∧
    (s.status = .run → t.status ≠ .faulted → t.jt = s.jt) := by
  unfold runStep at h
  cases hs : s.status <;> rw [hs] at h
  case run =>
    obtain ⟨hcfg, himem, hjt⟩ := execStep_keeps_program hs h
    exact ⟨fun _ => hcfg, fun _ => himem, fun _ => hjt⟩
  all_goals cases h
  case load =>
    obtain ⟨_, _, hcfg, _⟩ := loadStep_keeps supp hs
    exact ⟨fun _ => hcfg, by simp, by simp⟩
  case prep =>
    obtain ⟨_, _, hcfg, _, himem, _⟩ := prepStep_keeps hs
    exact ⟨fun _ => hcfg, fun _ => himem, by simp⟩
  case idle | halted | faulted | refused => simp

end Run

end Machine

open Machine

/-- Settles O47: an ended run does not move, the packer writes no status register, and of the host's moves only the
start command and reset do. -/
theorem endedRunsAreTerminal : Obligations.EndedRunsAreTerminal := by
  intro s t hs h
  rcases stepWith_cases Config.supported s with ⟨_, e⟩ | ⟨_, _, e⟩ | ⟨_, _, e⟩ | ⟨m, ts, hm, e⟩ <;>
    rw [step, e] at h
  · rw [runStep_of_ended hs] at h
    cases h
    exact .inl ⟨rfl, rfl, rfl, rfl⟩
  · rw [runStep_of_ended (s := s.popTurn) hs] at h
    cases h
    exact .inl ⟨rfl, rfl, rfl, rfl⟩
  · rw [packStep_frame h]
    exact .inl ⟨rfl, rfl, rfl, rfl⟩
  · cases h
    by_cases hstart : m = .start
    · subst hstart
      have hset : s.popTurn.status.settled = true := by rcases hs with hs | hs | hs <;> simp [hs, Status.settled]
      refine .inr (.inl ⟨by rw [hm]; rfl, ?_⟩)
      dsimp only [hostStep]
      rw [State.startRun_of_settled hset]
      exact ⟨rfl, rfl, rfl, rfl⟩
    · by_cases hreset : m = .reset
      · subst hreset
        exact .inr (.inr ⟨by rw [hm]; rfl, rfl, rfl, rfl, rfl⟩)
      · rw [hostStep_frame hstart hreset]
        exact .inl ⟨rfl, rfl, rfl, rfl⟩

/-- Settles O48: the run's units write the program and the configuration in no phase after the load, the packer
never, and the host only between runs or by reset. -/
theorem programAndConfigurationAreFixedDuringRun : Obligations.ProgramAndConfigurationAreFixedDuringRun := by
  intro s t h hreset
  rcases stepWith_cases Config.supported s with ⟨_, e⟩ | ⟨_, _, e⟩ | ⟨_, _, e⟩ | ⟨m, ts, hm, e⟩ <;>
    rw [step, e] at h
  · exact runStep_keeps_program h
  · exact runStep_keeps_program (s := s.popTurn) h
  · rw [packStep_frame h]
    exact ⟨fun _ => rfl, fun _ => rfl, fun _ _ => rfl⟩
  · cases h
    have hne : m ≠ .reset := by rintro rfl; exact hreset (by rw [hm]; rfl)
    have keeps (hs : s.status = .load ∨ s.status = .prep ∨ s.status = .run) :=
      hostStep_keeps_program (s := s.popTurn) (Status.not_settled_iff.mpr hs) hne
    exact ⟨fun hs => (keeps hs).1, fun hs => (keeps (.inr hs)).2.1, fun hs _ => (keeps (.inr (.inr hs))).2.2⟩

end Sys2Proof
end

section
/-! PROOFS (70_reset_and_hazards.md R268). A byte image read back as bits is the program's bits and the zeros that pad
its last byte, which are whole instructions 000 and at most two bits more. -/

namespace Sys2Proof
namespace Machine

/-- The number of zero bits that pad the byte image of a program of `L` instructions (40_packer.md R121). -/
def imagePadding (L : Nat) : Nat := (8 - 3 * L % 8) % 8

theorem i2b_append (c d : List Code) : i2b (c ++ d) = i2b c ++ i2b d := List.flatMap_append

theorem i2b_replicate_zero (n : Nat) : i2b (List.replicate n 0#3) = List.replicate (3 * n) false := by
  induction n with
  | zero => rfl
  | succ n ih =>
    rw [List.replicate_succ, i2b_cons, ih, Nat.mul_succ, Nat.add_comm, List.replicate_add]
    rfl

/-- Zero bits as instructions 000 and fewer than three bits more. -/
theorem replicate_false_eq_i2b_append (n : Nat) :
    List.replicate n false = i2b (List.replicate (n / 3) 0#3) ++ List.replicate (n % 3) false := by
  rw [i2b_replicate_zero, ← List.replicate_add, Nat.div_add_mod]

/-- `Y2B` after `B2Y` gives the bits back, padded to whole bytes (40_packer.md R130). -/
theorem y2b_b2y (s : List Bit) : y2b (b2y s).1 = s ++ List.replicate ((8 - s.length % 8) % 8) false := by
  obtain ⟨_, hwhole, hshort⟩ := byteCodecRoundTrips
  by_cases h : s.length % 8 = 0
  · simp [(hwhole s h).1, h]
  · have hlt : (8 - s.length % 8) % 8 = 8 - s.length % 8 := by omega
    rw [(hshort s h).1, hlt]

/-- The bits of a byte image: the program, the instructions 000 its padding has room for, and the rest. -/
theorem y2b_programImage (c : List Code) :
    y2b (programImage c).1 =
      i2b (c ++ List.replicate (imagePadding c.length / 3) 0#3) ++
        List.replicate (imagePadding c.length % 3) false := by
  rw [programImage, y2b_b2y, i2b_length, ← imagePadding, replicate_false_eq_i2b_append, ← List.append_assoc,
    i2b_append]

/-- A padding of whole instructions reads back as these. -/
theorem b2i_programImage_of_padding {c : List Code} {n : Nat} (h : imagePadding c.length = 3 * n) :
    b2i (y2b (programImage c).1) = .ok (c ++ List.replicate n 0#3) := by
  have hdiv : imagePadding c.length / 3 = n := by omega
  have hmod : imagePadding c.length % 3 = 0 := by omega
  rw [y2b_programImage, hdiv, hmod, List.replicate_zero, List.append_nil, b2i_i2b]

/-- Any other padding leaves bits over. -/
theorem b2i_programImage_of_leftover {c : List Code} (h : imagePadding c.length % 3 ≠ 0) :
    b2i (y2b (programImage c).1) = .error (imagePadding c.length % 3) := by
  have hshort := b2i_i2b_append_short (c ++ List.replicate (imagePadding c.length / 3) 0#3)
    (r := List.replicate (imagePadding c.length % 3) false) (by simpa using h)
    (by rw [List.length_replicate]; omega)
  rw [y2b_programImage, hshort, List.length_replicate]

/-- The padding depends on the length modulo 8 alone. -/
theorem imagePadding_mod (L : Nat) : imagePadding L = imagePadding (L % 8) := by
  have h : 3 * L % 8 = 3 * (L % 8) % 8 := by omega
  rw [imagePadding, imagePadding, h]

/-- The diagnostic reports a padding (40_packer.md R121). -/
theorem programImage_pad (c : List Code) : (programImage c).2 = true ↔ c.length % 8 ≠ 0 := by
  rw [programImage, b2y, i2b_length, decide_eq_true_iff]
  omega

end Machine

open Machine

/-- Settles O4: the padding is 0, 3 or 6 bits at lengths 0, 7 and 6 modulo 8, and no multiple of three bits at the
others. -/
theorem byteImageWithoutLengthHazard : Obligations.ByteImageWithoutLengthHazard := by
  intro c
  refine ⟨fun h => ?_, fun h => ?_, fun h => ?_, fun hlo hhi => ?_, programImage_pad c⟩
  · have hpad : imagePadding c.length = 3 * 0 := by rw [imagePadding_mod, h]; rfl
    simpa using b2i_programImage_of_padding hpad
  · have hpad : imagePadding c.length = 3 * 1 := by rw [imagePadding_mod, h]; rfl
    exact b2i_programImage_of_padding hpad
  · have hpad : imagePadding c.length = 3 * 2 := by rw [imagePadding_mod, h]; rfl
    exact b2i_programImage_of_padding hpad
  · have hshort : ∀ L ≤ 5, 1 ≤ L → imagePadding L % 3 = 1 ∨ imagePadding L % 3 = 2 := by decide
    have hpad : imagePadding c.length % 3 = 1 ∨ imagePadding c.length % 3 = 2 := by
      rw [imagePadding_mod]
      exact hshort _ hhi hlo
    exact ⟨_, b2i_programImage_of_leftover (by omega), hpad⟩

end Sys2Proof
end

section
/-! PROOFS (70_reset_and_hazards.md R261; 10_state.md R45). The starts of a run and of a call, and that no step looks at
what is not live: each agent's step of the live part alone has the live part of its step of the whole state. -/

namespace Sys2Proof
namespace Machine

/-- A result with `f` applied to its next state. -/
def mapNext (f : State → State) : Result → Result
  | .next t => .next (f t)
  | .fault r => .fault r
  | .refused r => .refused r

theorem mapNext_eq_next_iff {f : State → State} {p : Result} {v : State} :
    mapNext f p = .next v ↔ ∃ t, p = .next t ∧ f t = v := by
  cases p <;> simp [mapNext]

theorem mapNext_eq_fault_iff {f : State → State} {p : Result} {r : Fault} :
    mapNext f p = .fault r ↔ p = .fault r := by
  cases p <;> simp [mapNext]

theorem mapNext_eq_refused_iff {f : State → State} {p : Result} {r : Refusal} :
    mapNext f p = .refused r ↔ p = .refused r := by
  cases p <;> simp [mapNext]

theorem mapNext_mapNext {f g : State → State} (h : ∀ t, f (g t) = f t) (p : Result) :
    mapNext f (mapNext g p) = mapNext f p := by
  cases p with
  | next t => exact congrArg Host.Outcome.next (h t)
  | fault | refused => rfl

/-- Results that agree under `f` end in the same way, in next states that agree under `f` or in the same stop. -/
theorem outcomes_agree_of_mapNext_eq {f : State → State} {p q : Result} (h : mapNext f p = mapNext f q) :
    (∀ t, p = .next t → ∃ v, q = .next v ∧ f t = f v) ∧
    (∀ r, p = .fault r → q = .fault r) ∧ (∀ r, p = .refused r → q = .refused r) := by
  refine ⟨?_, fun r hp => ?_, fun r hp => ?_⟩
  · rintro t rfl
    obtain ⟨v, hq, hv⟩ := mapNext_eq_next_iff.1 h.symm
    exact ⟨v, hq, hv.symm⟩
  · rwa [← mapNext_eq_fault_iff (f := f), ← h, mapNext_eq_fault_iff]
  · rwa [← mapNext_eq_refused_iff (f := f), ← h, mapNext_eq_refused_iff]

/-! ## The starts -/

section Starts

variable {s : State}

/-- What a start command gives has in its live part nothing of the earlier run (42_execution_cycle.md R160). -/
theorem live_startRun_withRunOf (h : s.status.settled = true) (u : State) :
    (s.withRunOf u).startRun.live = s.startRun.live := by
  rw [State.startRun_of_settled h, State.startRun_of_settled (s := s.withRunOf u) h]
  rfl

/-- The start of a call clears all that an earlier call left (40_packer.md R111). -/
theorem beginCall_withCallOf (h : s.phase ≠ .busy) (u : State) : (s.withCallOf u).beginCall = s.beginCall := by
  rw [State.beginCall_of_ne_busy h, State.beginCall_of_ne_busy (s := s.withCallOf u) h]
  rfl

end Starts

/-! ## The live part as an exchange of the run's registers -/

section Exchange

variable (s u : State)

/-- The live part keeps all but registers of the run. -/
theorem live_eq_withRunOf : s.live = s.withRunOf s.live := by
  unfold State.live
  split <;> rfl

/-- Which registers of the run are live is decided by `STATUS` alone. -/
theorem live_withRunOf {t : State} (h : t.status = s.status) : (t.withRunOf s).live = t.withRunOf s.live := by
  have ht : (t.withRunOf s).status = s.status := h
  unfold State.live
  rw [ht]
  cases s.status <;> rfl

/-- A step that neither looks at the run's registers nor writes them or `STATUS` is one of the live part. -/
theorem step_live_of_withRunOf {g : State → Result} (hcomm : ∀ u, g (s.withRunOf u) = mapNext (·.withRunOf u) (g s))
    (hstatus : ∀ t, g s = .next t → t.status = s.status) : g s.live = mapNext State.live (g s) := by
  have hself : g s = mapNext (·.withRunOf s) (g s) := hcomm s
  rw [live_eq_withRunOf, hcomm]
  cases hg : g s with
  | next t =>
    rw [hg] at hself
    have ht : t = t.withRunOf s := Host.Outcome.next.inj hself
    have hlive := live_withRunOf s (hstatus t hg)
    rw [← ht] at hlive
    exact congrArg Host.Outcome.next hlive.symm
  | fault | refused => rfl

@[simp] theorem live_live : s.live.live = s.live := by
  rw [State.live, live_status, State.live]
  cases s.status <;> rfl

end Exchange

/-! ## The packer and the host look at no register of the run -/

section Units

variable (s u : State)

theorem takeBit_withRunOf (k : Nat) (item : Nat → PackOut) (b : Bit) :
    (s.withRunOf u).takeBit k item b = (s.takeBit k item b).withRunOf u := by
  by_cases h : s.cnt + 1 = k
  · rw [State.takeBit_full item b h, State.takeBit_full (s := s.withRunOf u) item b h]
    rfl
  · rw [State.takeBit_short item b h, State.takeBit_short (s := s.withRunOf u) item b h]
    rfl

theorem endB2i_withRunOf : (s.withRunOf u).endB2i = s.endB2i.withRunOf u := by
  by_cases h : s.cnt = 0
  · rw [State.endB2i_boundary h, State.endB2i_boundary (s := s.withRunOf u) h]
    rfl
  · rw [State.endB2i_short h, State.endB2i_short (s := s.withRunOf u) h]
    rfl

theorem endB2y_withRunOf : (s.withRunOf u).endB2y = s.endB2y.withRunOf u := by
  rcases Nat.eq_zero_or_pos s.cnt with h | h
  · rw [State.endB2y_boundary h, State.endB2y_boundary (s := s.withRunOf u) h]
    rfl
  · rw [State.endB2y_short h, State.endB2y_short (s := s.withRunOf u) h]
    rfl

theorem emitAll_bits_withRunOf (xs : List Bit) :
    (s.withRunOf u).emitAll (xs.map .bit) = (s.emitAll (xs.map .bit)).withRunOf u := by
  rw [emitAll_bits, emitAll_bits]
  rfl

theorem packItem_withRunOf (x : PackItem) :
    packItem (s.withRunOf u) x = mapNext (·.withRunOf u) (packItem s x) := by
  have hpop : (s.withRunOf u).pop = s.pop := rfl
  unfold packItem
  rw [hpop]
  cases s.pop <;> cases x <;> dsimp only [mapNext]
  case b2i.bit b | b2y.bit b => rw [takeBit_withRunOf]
  case b2i.fin => rw [endB2i_withRunOf]
  case b2y.fin => rw [endB2y_withRunOf]
  case i2b.code c | y2b.byte c => rw [emitAll_bits_withRunOf]
  case i2b.fin | y2b.fin => rfl

theorem packStep_withRunOf : packStep (s.withRunOf u) = mapNext (·.withRunOf u) (packStep s) := by
  have hphase : (s.withRunOf u).phase = s.phase := rfl
  have hq : (s.withRunOf u).packQ = s.packQ := rfl
  unfold packStep
  rw [hphase, hq]
  split
  · exact packItem_withRunOf s.consumePack u _
  all_goals rfl

theorem packStep_live : packStep s.live = mapNext State.live (packStep s) :=
  step_live_of_withRunOf s (packStep_withRunOf s) fun t h => by rw [packStep_frame h]

theorem writeCfg_withRunOf (c : Cfg) : (s.withRunOf u).writeCfg c = (s.writeCfg c).withRunOf u := by
  by_cases h : s.status.settled = true
  · rw [State.writeCfg_of_settled h, State.writeCfg_of_settled (s := s.withRunOf u) h]
    rfl
  · rw [State.writeCfg_of_not_settled h, State.writeCfg_of_not_settled (s := s.withRunOf u) h]

theorem writePop_withRunOf (op : PackOp) : (s.withRunOf u).writePop op = (s.writePop op).withRunOf u := by
  by_cases h : s.phase = .busy
  · rw [State.writePop_of_busy h, State.writePop_of_busy (s := s.withRunOf u) h]
  · rw [State.writePop_of_ne_busy h, State.writePop_of_ne_busy (s := s.withRunOf u) h]
    rfl

theorem beginCall_withRunOf : (s.withRunOf u).beginCall = s.beginCall.withRunOf u := by
  by_cases h : s.phase = .busy
  · rw [State.beginCall_of_busy h, State.beginCall_of_busy (s := s.withRunOf u) h]
  · rw [State.beginCall_of_ne_busy h, State.beginCall_of_ne_busy (s := s.withRunOf u) h]
    rfl

theorem hostStep_withRunOf {m : HostMove} (hstart : m ≠ .start) (hreset : m ≠ .reset) :
    hostStep m (s.withRunOf u) = (hostStep m s).withRunOf u := by
  cases m with
  | start => exact absurd rfl hstart
  | reset => exact absurd rfl hreset
  | writeW | writeN | writeWrap | writeEofMode | writeFill => exact writeCfg_withRunOf s u _
  | writePop op => exact writePop_withRunOf s u op
  | packStart => exact beginCall_withRunOf s u
  | program | input | accept | packItem | wire => rfl

theorem startRun_live : s.live.startRun.live = s.startRun.live := by
  by_cases h : s.status.settled = true
  · have hstart := live_startRun_withRunOf h s.live
    rwa [← live_eq_withRunOf] at hstart
  · rw [State.startRun_of_not_settled h, State.startRun_of_not_settled (by rwa [live_status]), live_live]

/-- A reset writes all of the run's registers anew (70_reset_and_hazards.md R260). -/
theorem hostReset_live : s.live.hostReset = s.hostReset := by
  rw [live_eq_withRunOf]
  rfl

theorem hostStep_live (m : HostMove) : (hostStep m s.live).live = (hostStep m s).live := by
  by_cases hstart : m = .start
  · subst hstart
    exact startRun_live s
  · by_cases hreset : m = .reset
    · subst hreset
      exact congrArg State.live (hostReset_live s)
    · have hstep := step_live_of_withRunOf (g := fun s => .next (hostStep m s)) s
        (fun u => congrArg Host.Outcome.next (hostStep_withRunOf s u hstart hreset))
        (fun t e => by cases e; rw [hostStep_frame hstart hreset])
      rw [Host.Outcome.next.inj hstep, live_live]

end Units

/-! ## The run looks at the live registers only -/

section Run

variable {s : State}

theorem live_of_load (h : s.status = .load) : s.live = s.clearExec.clearScan := by simp [State.live, h]

theorem live_of_prep (h : s.status = .prep) : s.live = s.clearExec := by simp [State.live, h]

theorem loadStep_of_nil {supp : Config.Support} (h : s.progQ = []) : loadStep supp s = s := by simp [loadStep, h]

/-- The loader reads the program port, the configuration and the program. -/
theorem loadStep_live (supp : Config.Support) (h : s.status = .load) :
    (loadStep supp s.live).live = (loadStep supp s).live := by
  have hlive := live_of_load h
  rcases loadStep_cases supp s with
    ⟨hq, _⟩ | ⟨c, r, hq, _⟩ | ⟨r, hq, hs, _⟩ | ⟨r, hq, hs, _⟩ | ⟨r, hq, _⟩
  · rw [loadStep_of_nil hq, loadStep_of_nil (by rw [hlive]; exact hq), live_live]
  all_goals rw [hlive]
  · rw [loadStep_of_code hq, loadStep_of_code (s := s.clearExec.clearScan) hq, live_of_load (by exact h),
      live_of_load (by exact h)]
    rfl
  · rw [loadStep_of_fin_supported hq hs, loadStep_of_fin_supported (s := s.clearExec.clearScan) hq hs]
    rfl
  · rw [loadStep_of_fin_unsupported hq hs, loadStep_of_fin_unsupported (s := s.clearExec.clearScan) hq hs]
    rfl
  · rw [loadStep_of_abort hq, loadStep_of_abort (s := s.clearExec.clearScan) hq]
    rfl

/-- `JTB` reads the program, the table and the scan; the start of execution writes what it does not read. -/
theorem prepStep_live (h : s.status = .prep) : (prepStep s.live).live = (prepStep s).live := by
  rw [live_of_prep h]
  rcases prepStep_cases s with ⟨c, st, jt, hc, hone, e⟩ | ⟨c, hc, hone, e⟩ | ⟨hend, hb, e⟩ | ⟨o, st, hend, hb, e⟩ <;>
    rw [e]
  · rw [prepStep_of_scanOne (s := s.clearExec) hc hone, live_of_prep (by exact h), live_of_prep (by exact h)]
    rfl
  · rw [prepStep_of_scanOne_none (s := s.clearExec) hc hone]
    rfl
  · rw [prepStep_at_end_of_nil (s := s.clearExec) hend hb]
    rfl
  · rw [prepStep_at_end_of_cons (s := s.clearExec) hend hb]
    rfl

theorem runStep_live (supp : Config.Support) (s : State) :
    mapNext State.live (runStep supp s.live) = mapNext State.live (runStep supp s) := by
  have hst := live_status s
  cases hs : s.status <;> rw [hs] at hst
  case run => rw [live_of_run hs]
  case load =>
    rw [runStep_of_load supp hst, runStep_of_load supp hs]
    exact congrArg Host.Outcome.next (loadStep_live supp hs)
  case prep =>
    rw [runStep_of_prep supp hst, runStep_of_prep supp hs]
    exact congrArg Host.Outcome.next (prepStep_live hs)
  case idle | halted | faulted | refused =>
    simp only [runStep, hs, hst]
    exact congrArg Host.Outcome.next (live_live s)

end Run

/-! ## A step and what the host reads -/

section Whole

variable (s : State)

@[simp] theorem live_turns : s.live.turns = s.turns := by rw [live_eq_withRunOf]; rfl

@[simp] theorem live_sink : s.live.sink = s.sink := by rw [live_eq_withRunOf]; rfl

@[simp] theorem live_packOut : s.live.packOut = s.packOut := by rw [live_eq_withRunOf]; rfl

@[simp] theorem live_packClose : s.live.packClose = s.packClose := by rw [live_eq_withRunOf]; rfl

theorem popTurn_live : s.live.popTurn = s.popTurn.live := by
  have hpop : s.live.popTurn = s.popTurn.withRunOf s.live := by rw [live_eq_withRunOf]; rfl
  exact hpop.trans (live_withRunOf s (t := s.popTurn) rfl).symm

/-- What the host reads is live (10_state.md R45). -/
@[simp] theorem live_observeAlways : s.live.observeAlways = s.observeAlways := by
  unfold State.live
  split <;> rfl

@[simp] theorem live_observeFinal : s.live.observeFinal = s.observeFinal := by
  by_cases h : s.status = .halted
  · rw [State.observeFinal_of_halted h, State.observeFinal_of_halted (by rwa [live_status])]
    simp only [State.live, h]
    rfl
  · rw [State.observeFinal_of_ne_halted h, State.observeFinal_of_ne_halted (by rwa [live_status])]

/-- A step of the live part alone has the live part of the step of the whole state. -/
theorem stepWith_live (supp : Config.Support) :
    mapNext State.live (stepWith supp s.live) = mapNext State.live (stepWith supp s) := by
  unfold stepWith
  rw [live_turns, popTurn_live]
  split
  · exact runStep_live supp s
  · exact runStep_live supp s.popTurn
  · rw [packStep_live, mapNext_mapNext live_live]
  · exact congrArg Host.Outcome.next (hostStep_live s.popTurn _)

end Whole

end Machine

open Machine

/-- Settles O52: where two states have the same live part, their steps have the live part of one and the same step. -/
theorem leftoversNeverReachALaterRunOrCall : Obligations.LeftoversNeverReachALaterRunOrCall := by
  refine ⟨fun s u => ⟨fun hs => ?_, fun hp => ?_, live_of_run⟩, fun supp s u h => ?_⟩
  · exact live_startRun_withRunOf (Status.settled_iff.mpr hs) u
  · exact beginCall_withCallOf hp u
  · have observed {α : Type} {f : State → α} (hf : ∀ s, f s.live = f s) : f s = f u := by rw [← hf, h, hf]
    have hstep : mapNext State.live (stepWith supp s) = mapNext State.live (stepWith supp u) := by
      rw [← stepWith_live, h, stepWith_live]
    exact ⟨observed live_observeAlways, observed live_observeFinal, observed live_sink, observed live_packOut,
      observed live_packClose, outcomes_agree_of_mapNext_eq hstep⟩

/-- Settles O51: each start overwrites the registers in question before anything reads them. -/
theorem startsDoNotDependOnThePast : Obligations.StartsDoNotDependOnThePast := by
  refine fun s u => ⟨fun hs => ?start, fun supp r hs hq hsupp => ?scan, fun hs hend hb => ?exec, fun hp => ?call⟩
  case start =>
    have hset := Status.settled_iff.mpr hs
    exact (State.startRun_of_settled (by exact hset)).trans (State.startRun_of_settled hset).symm
  case scan =>
    rw [runStep_of_load supp hs, loadStep_of_fin_supported hq hsupp, runStep_of_load supp (by exact hs),
      loadStep_of_fin_supported (by exact hq) (by exact hsupp)]
  case exec =>
    have hnone : s.imem[s.scan]? = none := by rw [hend]; exact List.getElem?_eq_none_iff.mpr le_rfl
    rw [prepStep_at_end_of_nil hnone hb, prepStep_at_end_of_nil (by exact hnone) (by exact hb)]
    exact ⟨rfl, rfl, rfl, rfl, rfl, Memory.read_zeroed⟩
  case call =>
    refine ⟨beginCall_withCallOf hp u, ?_⟩
    dsimp only [hostStep]
    rw [State.beginCall_of_ne_busy hp]
    exact ⟨rfl, rfl, rfl, rfl⟩

end Sys2Proof
end

section
/-! PROOFS (43_pointer.md R182, R183). What `<` does with the range policy: the counterpart of `>` at index 0. -/

namespace Sys2Proof
namespace Machine

variable {c : Cfg} {p : Int}

/-- To the left of an index of the tape stands another, but at index 0 of a fixed tape or without wraparound. -/
theorem validIndex_add_neg_one (hp : validIndex c p = true) :
    validIndex c (p + -1) = true ↔ ¬((0 < c.n ∨ c.wrap = false) ∧ p = 0) := by
  by_cases hn : 0 < c.n
  · rw [validIndex_of_fixed hn] at hp ⊢
    omega
  · rw [validIndex_of_dynamic hn] at hp ⊢
    cases hw : c.wrap with
    | true => simp [hn]
    | false =>
      have hnonneg : 0 ≤ p := by simpa [hw] using hp
      have hpred : 0 ≤ p + -1 ↔ p ≠ 0 := by omega
      simpa using hpred

theorem moveTarget_neg_one (hp : validIndex c p = true) (he : ¬((0 < c.n ∨ c.wrap = false) ∧ p = 0)) :
    moveTarget c p (-1) = some (p + -1) := by
  rw [moveTarget_eq, if_pos ((validIndex_add_neg_one hp).2 he)]

/-- Index 0 without wraparound is the left end of every tape (decision D11; log 16). -/
theorem moveTarget_neg_one_of_unwrapped (hp : validIndex c p = true) (hw : c.wrap = false) (he : p = 0) :
    moveTarget c p (-1) = none := by
  have hout : ¬validIndex c (p + -1) = true := by
    rw [validIndex_add_neg_one hp]
    exact not_not_intro ⟨.inr hw, he⟩
  rw [moveTarget_eq, if_neg hout, hw, if_neg Bool.false_ne_true]

/-- One step to the left of index 0 of a fixed tape with wraparound is the right end. -/
theorem moveTarget_neg_one_of_wrapped (hn : 0 < c.n) (hw : c.wrap = true) :
    moveTarget c 0 (-1) = some ((c.n : Int) - 1) := by
  have hout : ¬validIndex c (0 + -1) = true := by rw [validIndex_of_fixed hn]; omega
  have hmod : (0 + -1 : Int) % (c.n : Int) = (c.n : Int) - 1 := by
    rw [← Int.add_emod_right, Int.emod_eq_of_lt (by omega) (by omega)]
    omega
  rw [moveTarget_eq, if_neg hout, if_pos hw, hmod]

end Machine

open Machine

/-- Settles O29: at index 0 the wraparound flag decides between the right end and the fault on a fixed tape, between
the next index and the fault on a dynamic one; everywhere else the next index is one of the tape. -/
theorem leftMovesOrFaults : Obligations.LeftMovesOrFaults := by
  refine ⟨rfl, fun s hp => ⟨?fault, ?move⟩⟩
  case fault =>
    rintro ⟨hw, he⟩
    exact ⟨_, movePointer_of_none (moveTarget_neg_one_of_unwrapped hp hw he), State.raise_status ..,
      State.raise_fcause ..⟩
  case move =>
    intro hfault
    by_cases he : 0 < s.cfg.n ∧ s.ptr = 0
    · rw [if_pos he]
      obtain ⟨hn, he⟩ := he
      have hw : s.cfg.wrap = true := eq_true_of_ne_false fun hw => hfault ⟨hw, he⟩
      have htarget : moveTarget s.cfg s.ptr (-1) = some ((s.cfg.n : Int) - 1) := by
        rw [he, moveTarget_neg_one_of_wrapped hn hw]
      exact movePointer_of_some htarget
    · rw [if_neg he]
      have hinner : ¬((0 < s.cfg.n ∨ s.cfg.wrap = false) ∧ s.ptr = 0) := by
        rintro ⟨hn | hw, h0⟩
        · exact he ⟨hn, h0⟩
        · exact hfault ⟨hw, h0⟩
      exact movePointer_of_some (moveTarget_neg_one hp hinner)

end Sys2Proof
end

section
/-! PROOFS (45_io.md R201, R204 to R206). A `.` that is accepted, and a `,` that receives a byte, the end of input, or
the end again. -/

namespace Sys2Proof
namespace Machine

section Input

variable {s t : State}

/-- Where INEOF is clear the source's next answer is received (45_io.md R204). -/
theorem takeInput_of_cons {x : InItem} {r : List InItem} (heof : s.ineof = false) (hq : s.inQ = x :: r) :
    takeInput s = some (x, { s with inQ := r }) := by
  simp [takeInput, State.consumeInput, heof, hq]

/-- The end of input is received as the source's answer, or without asking once INEOF is set (45_io.md R205, decision
D16). -/
theorem takeInput_of_end {r : List InItem}
    (h : (s.ineof = true ∧ r = s.inQ) ∨ (s.ineof = false ∧ s.inQ = .eof :: r)) :
    takeInput s = some (.eof, { s with inQ := r }) := by
  rcases h with ⟨heof, rfl⟩ | ⟨heof, hq⟩
  · rw [takeInput, if_pos heof]
  · exact takeInput_of_cons heof hq

/-- What a `,` leaves when it stores `v` (45_io.md R206). -/
def State.afterStore (s : State) (v : Int) : State := (s.setCell (norm s.cfg.w v)).advance

theorem exec_in_of_byte {b : Byte} (hv : validIndex t.cfg t.ptr = true) (h : takeInput s = some (.byte b, t)) :
    exec .in_ s = .next (t.afterStore (b.toNat : Int)) := by
  simp only [exec, execIn, h]
  exact withCell_of_valid hv _

theorem exec_in_of_eof_noChange (h : takeInput s = some (.eof, t)) (hm : t.cfg.eofmode = .noChange) :
    exec .in_ s = .next t.latchEof.advance := by
  simp only [exec, execIn, h, hm]

theorem exec_in_of_eof_fill (hv : validIndex t.cfg t.ptr = true) (h : takeInput s = some (.eof, t))
    (hm : t.cfg.eofmode = .fill) : exec .in_ s = .next (t.latchEof.afterStore t.cfg.fill) := by
  simp only [exec, execIn, h, hm]
  exact withCell_of_valid (s := t.latchEof) hv _

/-- The cell after a store is the value reduced to the cell width, and no other cell has changed (decision D12; log
17). -/
theorem State.afterStore_read (hwf : s.tape.wf) (v : Int) :
    (0 < s.cfg.w → (s.afterStore v).tape.read s.ptr = v % ((2 ^ s.cfg.w : Nat) : Int)) ∧
    (s.cfg.w = 0 → (s.afterStore v).tape.read s.ptr = v) ∧
    ∀ i, i ≠ s.ptr → (s.afterStore v).tape.read i = s.tape.read i := by
  have hread (i : Int) : (s.afterStore v).tape.read i = if s.ptr = i then norm s.cfg.w v else s.tape.read i :=
    Memory.read_write hwf ..
  refine ⟨fun hw => ?_, fun hw => ?_, fun i hi => ?_⟩
  · rw [hread, if_pos rfl, norm_of_pos hw]
  · rw [hread, if_pos rfl, hw, norm_zero]
  · rw [hread, if_neg hi.symm]

end Input

end Machine

open Machine

/-- Settles O34: the byte handed over is the floored remainder of the cell. -/
theorem outDeliversCellModulo256 : Obligations.OutDeliversCellModulo256 := by
  refine ⟨rfl, fun s hv hcredit => ⟨outByte (s.tape.read s.ptr), outByte_toNat _, ?_⟩⟩
  rw [exec_out_of_valid hv, if_neg hcredit.ne']
  rfl

/-- Settles O35: the byte is received and stored. -/
theorem inStoresInputByte : Obligations.InStoresInputByte :=
  ⟨rfl, fun s _ r hv hwf heof hq =>
    ⟨_, exec_in_of_byte (t := { s with inQ := r }) hv (takeInput_of_cons heof hq), rfl,
      State.afterStore_read (s := { s with inQ := r }) hwf _⟩⟩

/-- Settles O36: the end of input is received either way, and the policy says whether the fill value is stored. -/
theorem inAppliesEndOfInputPolicy : Obligations.InAppliesEndOfInputPolicy := by
  intro s r hv hwf hend
  have htake := takeInput_of_end hend
  refine ⟨fun hm => ?noChange, fun hm => ?fill⟩
  case noChange => exact exec_in_of_eof_noChange htake hm
  case fill =>
    exact ⟨_, exec_in_of_eof_fill (t := { s with inQ := r }) hv htake hm, rfl,
      State.afterStore_read (s := State.latchEof { s with inQ := r }) hwf _⟩

end Sys2Proof
end
